-- ==== Sys2Proof/Word.lean ====
section
/-! DEFINITION. The word types of the RPDE: what spec/ treats as bits. -/

namespace Sys2Proof

/-- One byte of a buffer (20 R105), and the 8-bit fields of ERRCODE (10 R37). -/
abbrev Byte := BitVec 8

/-- A 16-bit register field: a width or a height in samples, or in blocks (10 R39 to R42). -/
abbrev Half := BitVec 16

/-- A 32-bit register or command word (10 R30, 30 R150). -/
abbrev Word := BitVec 32

/-- An IEEE 754 binary64 bit pattern, or a 64-bit integer of the SSD scope (00 R14, 10 R54). -/
abbrev F64 := BitVec 64

end Sys2Proof
end

