-- ==== Sys2Proof/Config.lean ====
section
/-! DEFINITION. What an implementation fixes, and what spec/ leaves open: the parameters of 00 R9 with
their legal ranges, and the free values. A free value is opaque: nothing in Lean can say what it is. -/

namespace Sys2Proof

/-- The implementation parameters of 00 R9. They are constants of one block: no step changes them.
`State` carries them as plain data, so that a statement holds for every legal choice (log 5). -/
structure Params where
  /-- BASE, the bus address of offset 0 of the block. -/
  base : Nat
  /-- FRAME_BUF_BYTES, the capacity in bytes of each of REF_BUF and TST_BUF. -/
  frameBufBytes : Nat
  /-- MASK_BUF_BYTES, the capacity in bytes of MASK_BUF. -/
  maskBufBytes : Nat
  /-- STORE_ENTRIES, the capacity in entries of SSD_STORE and in bytes of MAP_BUF. -/
  storeEntries : Nat
deriving DecidableEq, Repr

/-- The legal ranges of 00 R9. -/
abbrev Params.Legal (p : Params) : Prop :=
  p.base % 2 ^ 27 = 0 ∧
  384 ≤ p.frameBufBytes ∧ p.frameBufBytes ≤ 2 ^ 24 ∧
  1 ≤ p.maskBufBytes ∧ p.maskBufBytes ≤ 2 ^ 24 ∧
  1 ≤ p.storeEntries ∧ p.storeEntries ≤ 2 ^ 22

/-- The parameters the test vectors of spec/95 use, at bus address 0. `State.reset` is built with
them. DESIGN CHOICE, unsafe only for a statement about `State.reset` itself (log 5). -/
def Params.reference : Params where
  base := 0
  frameBufBytes := 4096
  maskBufBytes := 16
  storeEntries := 16

namespace Config

/-- LOG10_FN of 41 R256 before its range is enforced (`log10Fn` does that). Free: only the
properties L1, L2 and L3, where a claim names them, say anything about it (log 6). -/
opaque log10Raw : F64 → F64

/-- The contents of a buffer byte that nothing has written since a hardware reset: one draw per byte
and per reset, fixed until the byte is written (93 U3). First argument: how many hardware resets
there have been. Second: the byte's bus offset (log 7). -/
opaque unwrittenByte : Nat → Nat → Byte

/-- The answer to a host read that 20 R114 leaves unspecified: any value, drawn at each read (93 U4).
The argument counts the reads so answered (log 8). -/
opaque unspecifiedRead : Nat → Word

/-- The sign and payload of the NaN a binary64 operation answers, from its two operands: no rule of
spec/ gives them (log 11). -/
opaque nanBits : F64 → F64 → BitVec 52

/-- The byte QUANTF answers outside the domain 41 R265 defines it on (log 12). -/
opaque quantOutside : F64 → F64 → F64 → Byte

end Config

end Sys2Proof
end

