-- ==== Sys2Proof/Syntax.lean ====
section
/-! DEFINITION. The syntax: the command words' instructions (30 R152), the host's bus transactions
(20 R100), and the host-program notation of spec/95 (30 R158 to R160). -/

namespace Sys2Proof

/-- The commands of 30 R152, one constructor per row of spec/opcode_table.json. The only operands in a
command word are its 1-bit flags (30 R151, R155). -/
inductive Instr where
  | nop
  /-- F0 = ROI_EN, F1 = EP_SKIP. -/
  | config (roiEn epSkip : Bool)
  | seqStart
  | frame
  | seqFinish
  /-- F0 = MIN_X, F1 = MAX_X. -/
  | map (minX maxX : Bool)
  | clearErr
  | softReset
deriving DecidableEq, Repr

/-- The size of a bus transaction: 1, 2 or 4 bytes (20 R100). -/
inductive Size where
  | one
  | two
  | four
deriving DecidableEq, Repr

/-- READ, or WRITE with its data; a WRITE of fewer than 4 bytes uses the low bytes (20 R100, R105). -/
inductive Access where
  | read
  | write (wdata : Word)
deriving DecidableEq, Repr

/-- A bus transaction of 20 R100. `addr` is a bus address: BASE is not yet subtracted. -/
structure Transaction where
  access : Access
  addr : Nat
  size : Size
deriving DecidableEq, Repr

/-- The mnemonics of 30 R152, as a host program spells them (30 R159). -/
inductive CommandName where
  | nop
  | config
  | seqStart
  | frame
  | seqFinish
  | map
  | clearErr
  | softReset
deriving DecidableEq, Repr

/-- The flag names a spelling may append: ROI and SKIP for CONFIG, MINX and MAXX for MAP (30 R159). -/
inductive FlagName where
  | roi
  | skip
  | minx
  | maxx
deriving DecidableEq, Repr

/-- NAME or NAME.FLAG..., the flags in the order written (30 R159). -/
structure Spelling where
  name : CommandName
  flags : List FlagName
deriving DecidableEq, Repr

/-- One line of a host program (30 R158, R160). Offsets are relative to BASE. -/
inductive HostLine where
  /-- W32, W16, W8 off, v -/
  | write (size : Size) (off : Nat) (v : Word)
  /-- R32, R16, R8 off -/
  | read (size : Size) (off : Nat)
  /-- EXPECT Rn off == v -/
  | expect (size : Size) (off : Nat) (v : Word)
  /-- CMD m -/
  | cmd (m : Spelling)
  /-- WAIT -/
  | wait
  /-- W64 off, v -/
  | write64 (off : Nat) (v : BitVec 64)
  /-- R64 off -/
  | read64 (off : Nat)
  /-- EXPECT R64 off == v, as the programs of spec/95 use it -/
  | expect64 (off : Nat) (v : BitVec 64)
  /-- FILL off, n, b -/
  | fill (off n : Nat) (b : Byte)
  /-- RUN m -/
  | run (m : Spelling)
deriving DecidableEq, Repr

end Sys2Proof
end

