-- ==== Sys2Proof/WellFormed.lean ====
section
/-! DEFINITION. Which terms of the syntax are well formed: command words (30 R150, R152), spellings
(30 R159), transactions (20 R100) and the lines of host programs. -/

namespace Sys2Proof

/-- Every command of `Instr` is well formed: 30 R151 leaves 1-bit flags as the only operands, used as
they are, and a flag of a command that admits none is not expressible. -/
def Instr.wellFormed : Instr → Bool
  | .nop => true
  | .config _ _ => true
  | .seqStart => true
  | .frame => true
  | .seqFinish => true
  | .map _ _ => true
  | .clearErr => true
  | .softReset => true

/-- OP, bits [7:0] of a command word (30 R150). -/
def opField (w : Word) : Byte := w.extractLsb' 0 8

/-- F0 and F1, bits 8 and 9 (30 R150). -/
def flagField (w : Word) : BitVec 2 := w.extractLsb' 8 2

/-- RSVD, bits [31:10] (30 R150). -/
def rsvdField (w : Word) : BitVec 22 := w.extractLsb' 10 22

/-- OP is one of the eight opcodes of 30 R152. -/
def opAssigned (w : Word) : Bool :=
  (opField w).toNat < 6 || opField w == 0x0E#8 || opField w == 0x0F#8

/-- OP is an opcode with flags: CONFIG or MAP (30 R152, R155). -/
def opHasFlags (w : Word) : Bool := opField w == 0x01#8 || opField w == 0x05#8

/-- RSVD is 0, as 30 R150 asks. -/
def rsvdOk (w : Word) : Bool := rsvdField w == 0#22

/-- The flags are 0 unless the opcode admits them (30 R152, "must be 0"). -/
def flagsOk (w : Word) : Bool := flagField w == 0#2 || opHasFlags w

/-- A command word that is not ILLEGAL, by 30 R154's list of consequences. -/
def commandWordWellFormed (w : Word) : Bool := rsvdOk w && opAssigned w && flagsOk w

/-- The flags a mnemonic admits (30 R159). -/
def CommandName.admits : CommandName → FlagName → Bool
  | .config, .roi => true
  | .config, .skip => true
  | .map, .minx => true
  | .map, .maxx => true
  | _, _ => false

/-- Every flag belongs to the mnemonic, and each appears at most once (30 R159). -/
def Spelling.wellFormed (m : Spelling) : Bool :=
  m.flags.all m.name.admits && decide m.flags.Nodup

/-- How many bytes a transaction of this size touches (20 R100). -/
def Size.bytes : Size → Nat
  | .one => 1
  | .two => 2
  | .four => 4

/-- wdata is `size` bytes (20 R100): the bits above them are 0. -/
def Transaction.wellFormed (t : Transaction) : Bool :=
  match t.access with
  | .read => true
  | .write w => decide (w.toNat < 2 ^ (8 * t.size.bytes))

/-- A host-program line whose value fits its size, and whose spelling is well formed. -/
def HostLine.wellFormed : HostLine → Bool
  | .write sz _ v => decide (v.toNat < 2 ^ (8 * sz.bytes))
  | .read _ _ => true
  | .expect sz _ v => decide (v.toNat < 2 ^ (8 * sz.bytes))
  | .cmd m => m.wellFormed
  | .wait => true
  | .write64 _ _ => true
  | .read64 _ => true
  | .expect64 _ _ => true
  | .fill _ _ _ => true
  | .run m => m.wellFormed

end Sys2Proof
end

