-- ==== Sys2Proof/Decode.lean ====
section
/-! DEFINITION. Decoding of command words (30 R152 to R154), total on every word and rejecting by name,
and the encoder (30 R153, R159). -/

namespace Sys2Proof

/-- One row of the opcode map of 30 R152: a word selects it when (w & mask) == match. -/
structure OpcodeRow where
  pattern : Word
  mask : Word
  build : Word → Instr

/-- F0, bit 8 (30 R150). -/
def flag0 (w : Word) : Bool := w.getLsbD 8

/-- F1, bit 9 (30 R150). -/
def flag1 (w : Word) : Bool := w.getLsbD 9

/-- The opcode map of 30 R152, in its order; the flags' meaning is 30 R155's. -/
def opcodeRows : List OpcodeRow :=
  [ ⟨0x00000000#32, 0xFFFFFFFF#32, fun _ => .nop⟩,
    ⟨0x00000001#32, 0xFFFFFCFF#32, fun w => .config (flag0 w) (flag1 w)⟩,
    ⟨0x00000002#32, 0xFFFFFFFF#32, fun _ => .seqStart⟩,
    ⟨0x00000003#32, 0xFFFFFFFF#32, fun _ => .frame⟩,
    ⟨0x00000004#32, 0xFFFFFFFF#32, fun _ => .seqFinish⟩,
    ⟨0x00000005#32, 0xFFFFFCFF#32, fun w => .map (flag0 w) (flag1 w)⟩,
    ⟨0x0000000E#32, 0xFFFFFFFF#32, fun _ => .clearErr⟩,
    ⟨0x0000000F#32, 0xFFFFFFFF#32, fun _ => .softReset⟩ ]

/-- A word selects a row (30 R152). -/
def OpcodeRow.selects (r : OpcodeRow) (w : Word) : Bool := w &&& r.mask == r.pattern

/-- Why a word is ILLEGAL, by 30 R154's list of consequences. The block reports one error for all of
them (ILLEGAL_CMD, 30 R157); the reason is for the reader. -/
inductive Illegal where
  /-- RSVD is not 0. -/
  | reservedBits
  /-- OP is 0x06-0x0D or 0x10-0xFF. -/
  | reservedOpcode (op : Byte)
  /-- A flag bit is set on an opcode without flags. -/
  | flagNotAdmitted (op : Byte)
deriving DecidableEq, Repr

/-- The name of the rejection of a word that no row selects. -/
def illegalReason (w : Word) : Illegal :=
  if rsvdOk w = false then .reservedBits
  else if opAssigned w = false then .reservedOpcode (opField w)
  else .flagNotAdmitted (opField w)

/-- 30 R154: the row whose `(w & mask) == match`, if exactly one exists, and ILLEGAL otherwise. -/
def decode (w : Word) : Except Illegal Instr :=
  match opcodeRows.filter (fun r => r.selects w) with
  | [r] => .ok (r.build w)
  | _ => .error (illegalReason w)

/-- A flag as a number, for the word it stands in. -/
def flagBit (b : Bool) (i : Nat) : Word := if b then 1#32 <<< i else 0#32

/-- The word of a command (30 R152, R153): the opcode with the flags in bits 8 and 9. -/
def encode : Instr → Word
  | .nop => 0x00000000#32
  | .config roiEn epSkip => 0x00000001#32 ||| flagBit roiEn 8 ||| flagBit epSkip 9
  | .seqStart => 0x00000002#32
  | .frame => 0x00000003#32
  | .seqFinish => 0x00000004#32
  | .map minX maxX => 0x00000005#32 ||| flagBit minX 8 ||| flagBit maxX 9
  | .clearErr => 0x0000000E#32
  | .softReset => 0x0000000F#32

/-- The command a spelling names (30 R159): the named flags are set, in any order. -/
def Spelling.instr (m : Spelling) : Instr :=
  match m.name with
  | .nop => .nop
  | .config => .config (m.flags.contains .roi) (m.flags.contains .skip)
  | .seqStart => .seqStart
  | .frame => .frame
  | .seqFinish => .seqFinish
  | .map => .map (m.flags.contains .minx) (m.flags.contains .maxx)
  | .clearErr => .clearErr
  | .softReset => .softReset

/-- enc of 30 R159: the word of a spelling. -/
def Spelling.enc (m : Spelling) : Word := encode m.instr

/-- What the decoder reads from an instruction of `nbits` bits numbered as spec/opcode_table.json
numbers them: one 32-bit command word, the bits above `nbits` zero. -/
def decodeTableWord (nbits w : Nat) : Option Instr :=
  match decode (BitVec.ofNat 32 (w % 2 ^ nbits)) with
  | .ok i => some i
  | .error _ => none

end Sys2Proof
end

