-- ==== Sys2Proof/Machine/State.lean ====
section
/-! DEFINITION. The machine's state as plain data: every register, result entry and buffer of
spec/10_state.md, and the host's side of the interface. A field's default is its reset value (10 R64). -/

namespace Sys2Proof.Machine

/-- SEQ_STATE (10 R63). -/
inductive SeqState where
  /-- IDLE (0): no sequence exists. -/
  | idle
  /-- OPEN (1): frames are being accumulated. -/
  | opened
  /-- CLOSED (2): SEQ_FINISH has completed and MAP is allowed. -/
  | closed
  /-- ABORTED (3): a fatal frame error ended the sequence. -/
  | aborted
deriving DecidableEq, Repr

/-- The command error codes of 60 R500; `noError` is NONE. The reserved codes 0x0F-0xFF are never
written (93 U9), so they have no constructor. -/
inductive ErrorCode where
  | noError
  | illegalCmd
  | seqState
  | notConfigured
  | cfgDimZero
  | cfgDimAlign
  | cfgDimRange
  | storeFull
  | emptyPartitionRoi
  | emptyPartitionNroi
  | seqEmpty
  | mapEmpty
  | mapBoundInvalid
  | mapInverted
  | mapDegenerate
deriving DecidableEq, Repr

/-- The five buffer spaces (10 R60). -/
inductive Space where
  | ref
  | tst
  | mask
  | store
  | map
deriving DecidableEq, Repr

/-- The registers of 10 R57, a 64-bit pair as its two words. -/
inductive Reg where
  | id | version | cmd | status | errcode | irqEn
  | cfgWidth | cfgHeight | actDim | actGrid | actCfg
  | frames | roiFrames | nroiFrames
  | capFrameBytes | capMaskBytes | capStoreEntries
  | storeCount | frameBlocks | frameRoiBlocks | valid
  | mapMinLo | mapMinHi | mapMaxLo | mapMaxHi
  | mapMinEffLo | mapMinEffHi | mapMaxEffLo | mapMaxEffHi
  | mapCount
deriving DecidableEq, Repr

/-- VALID (10 R48), one field per assigned bit. -/
structure Valid where
  frameAll : Bool := false
  frameRoi : Bool := false
  frameNroi : Bool := false
  seqAll : Bool := false
  seqRoi : Bool := false
  seqNroi : Bool := false
  mapValid : Bool := false
deriving DecidableEq, Repr

/-- One value per partition (00 R16, 10 R50). Partition 3 is reserved and holds nothing. -/
structure Parts (α : Type) where
  all : α
  roi : α
  nroi : α
deriving DecidableEq, Repr

/-- The stats 0..8 of the FRAME and SUM scopes (10 R51, R52), in that order. -/
structure FrameStats where
  mseY : F64 := 0
  mseU : F64 := 0
  mseV : F64 := 0
  mseT : F64 := 0
  psnrY : F64 := 0
  psnrU : F64 := 0
  psnrV : F64 := 0
  psnrT : F64 := 0
  wpsnr : F64 := 0
deriving DecidableEq, Repr

/-- The stats 0..12 of the SEQ scope (10 R53), in that order. -/
structure SeqStats where
  amseY : F64 := 0
  amseU : F64 := 0
  amseV : F64 := 0
  amseT : F64 := 0
  spsnrY : F64 := 0
  spsnrU : F64 := 0
  spsnrV : F64 := 0
  spsnrT : F64 := 0
  awpsnr : F64 := 0
  apsnrY : F64 := 0
  apsnrU : F64 := 0
  apsnrV : F64 := 0
  apsnrT : F64 := 0
deriving DecidableEq, Repr

/-- The stats 0..3 of the SSD scope, unsigned 64-bit integers (10 R54). -/
structure SsdStats where
  ssdY : BitVec 64 := 0
  ssdU : BitVec 64 := 0
  ssdV : BitVec 64 := 0
  ssdT : BitVec 64 := 0
deriving DecidableEq, Repr

/-- The buffers' contents: (bus offset, byte) pairs with the offsets strictly rising (`Memory.wf`). An
offset that is not listed has not been written since the last hardware reset; it holds no value here,
and what a read of it answers is `readByte`'s business (93 U3, log 7). -/
abbrev Memory := List Host.Cell

/-- The canonical form of a memory: strictly rising offsets. An unlisted offset has no value, so no
entry can equal what an unlisted one reads as. -/
def Memory.wf : Memory → Bool
  | [] => true
  | [_] => true
  | (a, _) :: (a', b') :: m => decide (a < a') && Memory.wf ((a', b') :: m)

/-- What happens next to the block, as the outside world and the passing of time decide (20 R115,
40 R204, 70 R600; log 1). -/
inductive HostEvent where
  /-- A bus transaction arrives. -/
  | bus (t : Transaction)
  /-- The engine gets its step: a command in flight completes. -/
  | engine
  /-- The reset input is asserted. -/
  | reset
deriving DecidableEq, Repr

/-- The block's response to a transaction (20 R100). -/
inductive Response where
  /-- OK of a READ, with the data zero-extended to 32 bits. -/
  | okRead (rdata : Word)
  /-- OK of a WRITE. -/
  | okWrite
  /-- BUSERR: the host agent's fault at this transaction; the block goes on unchanged (20 R108, log 2). -/
  | busErr
deriving DecidableEq, Repr

/-- Why the machine stops. -/
inductive Fault where
  /-- Raised by `step` for a transaction whose bus address lies outside BASE .. BASE + 2^27 - 1: it does
  not belong to the block (20 R100), and the spec gives it no effect. Safe (log 3). -/
  | notThisBlock (addr : Nat)
deriving DecidableEq, Repr

/-- Why an instruction has no meaning. -/
inductive Refusal where
  /-- Raised by `exec` for an instruction that is not modelled yet. Safe. -/
  | notModelled (mnemonic : String)
deriving DecidableEq, Repr

/-- The machine. Fields follow spec/10_state.md's order; the last four and `params` are the model's. -/
structure State where
  /-- BASE and the CAP_* constants (00 R9, 10 R45). No step changes them (log 5). -/
  params : Params
  /-- CUR_CMD, the command word accepted last (10 R62). -/
  curCmd : Word := 0
  /-- STATUS.BUSY (10 R35). -/
  busy : Bool := false
  /-- STATUS.DONE (10 R35). -/
  done : Bool := false
  /-- STATUS.ERR (10 R35). -/
  err : Bool := false
  /-- STATUS.CMD_OVR (10 R35). -/
  cmdOvr : Bool := false
  /-- STATUS.REJ (10 R35). -/
  rej : Bool := false
  /-- STATUS.WR_DROP (10 R35). -/
  wrDrop : Bool := false
  /-- STATUS.SEQ_STATE (10 R35, R63). -/
  seqState : SeqState := .idle
  /-- ERRCODE.OP (10 R37). -/
  errOp : Byte := 0
  /-- ERRCODE.CODE (10 R37). -/
  errCode : ErrorCode := .noError
  /-- IRQ_EN.DONE_IE (10 R38). -/
  doneIe : Bool := false
  /-- IRQ_EN.ERR_IE (10 R38). -/
  errIe : Bool := false
  /-- CFG_WIDTH.WIDTH (10 R39). -/
  cfgWidth : Half := 0
  /-- CFG_HEIGHT.HEIGHT (10 R40). -/
  cfgHeight : Half := 0
  /-- ACT_DIM.W (10 R41). -/
  actW : Half := 0
  /-- ACT_DIM.H (10 R41). -/
  actH : Half := 0
  /-- ACT_GRID.NBW (10 R42). -/
  nbw : Half := 0
  /-- ACT_GRID.NBH (10 R42). -/
  nbh : Half := 0
  /-- ACT_CFG.VALID, which STATUS.CFG_VALID mirrors (10 R43, R35). -/
  cfgValid : Bool := false
  /-- ACT_CFG.ROI_EN (10 R43). -/
  roiEn : Bool := false
  /-- ACT_CFG.EP_SKIP (10 R43). -/
  epSkip : Bool := false
  /-- FRAMES (10 R44). -/
  frames : Word := 0
  /-- ROI_FRAMES (10 R44). -/
  roiFrames : Word := 0
  /-- NROI_FRAMES (10 R44). -/
  nroiFrames : Word := 0
  /-- STORE_COUNT (10 R46). -/
  storeCount : Word := 0
  /-- FRAME_BLOCKS (10 R47). -/
  frameBlocks : Word := 0
  /-- FRAME_ROI_BLOCKS (10 R47). -/
  frameRoiBlocks : Word := 0
  /-- VALID (10 R48). -/
  valid : Valid := {}
  /-- MAP_MIN (10 R49). -/
  mapMin : F64 := 0
  /-- MAP_MAX (10 R49). -/
  mapMax : F64 := 0
  /-- MAP_MIN_EFF (10 R49). -/
  mapMinEff : F64 := 0
  /-- MAP_MAX_EFF (10 R49). -/
  mapMaxEff : F64 := 0
  /-- MAP_COUNT (10 R49). -/
  mapCount : Word := 0
  /-- RESULT scope 0, FRAME (10 R51). -/
  resFrame : Parts FrameStats := ⟨{}, {}, {}⟩
  /-- RESULT scope 1, SUM (10 R52). -/
  resSum : Parts FrameStats := ⟨{}, {}, {}⟩
  /-- RESULT scope 2, SEQ (10 R53). -/
  resSeq : Parts SeqStats := ⟨{}, {}, {}⟩
  /-- RESULT scope 3, SSD (10 R54). -/
  resSsd : Parts SsdStats := ⟨{}, {}, {}⟩
  /-- REF_BUF, TST_BUF, MASK_BUF, SSD_STORE and MAP_BUF (10 R60), by bus offset (20 R101). -/
  mem : Memory := []
  /-- The model's: how many hardware resets there have been; picks the draws of unwritten bytes (log 7). -/
  resets : Nat := 0
  /-- The model's: how many unspecified host reads have been answered (log 8). -/
  draws : Nat := 0
  /-- The model's: what happens next, in order (log 1). -/
  inbox : List HostEvent := []
  /-- The model's: the response to the last bus transaction (20 R100, log 2). -/
  response : Option Response := none
deriving DecidableEq, Repr

/-- The block with parameters `p` right after a power-on reset (10 R64, 70 R600): every register at its
reset value, no buffer byte written, nothing pending. -/
def State.powerOn (p : Params) : State := { params := p }

/-- The machine right after reset, with the reference parameters (DESIGN CHOICE, log 5). -/
def State.reset : State := State.powerOn Params.reference

end Sys2Proof.Machine
end

