-- ==== Sys2Proof/Machine/Ops.lean ====
section
/-! DEFINITION. The shared operations: buffers and their bytes (00 R13, 10 R60, 20 R101), the acceptance
and completion of a command (40 R200 to R206), the error commit, which is this hardware's exception entry
(60 R512), the return from it (60 R513), and the two resets (40 R212, 70 R600). -/

namespace Sys2Proof.Machine

/-! ### Bytes of memory -/

/-- The byte at an offset, if one has been written. -/
def Memory.lookup : Memory → Nat → Option Byte
  | [], _ => none
  | (a', b) :: m, a => if a' == a then some b else Memory.lookup m a

/-- Store one byte, keeping the offsets strictly rising. -/
def Memory.write : Memory → Nat → Byte → Memory
  | [], a, b => [(a, b)]
  | (a', b') :: m, a, b =>
    if a < a' then (a, b) :: (a', b') :: m
    else if a' == a then (a, b) :: m
    else (a', b') :: Memory.write m a b

/-- Store the low `n` bytes of `v` from offset `a` up, little-endian (20 R105). -/
def Memory.writeLE (m : Memory) (a : Nat) : Nat → Nat → Memory
  | 0, _ => m
  | n + 1, v => Memory.writeLE (Memory.write m a (BitVec.ofNat 8 v)) (a + 1) n (v / 256)

/-- Store 4-byte little-endian entries one after another: entries of SSD_STORE (20 R105, 43 R354). -/
def Memory.writeEntries (m : Memory) (a : Nat) : List Nat → Memory
  | [] => m
  | v :: vs => Memory.writeEntries (Memory.writeLE m a 4 v) (a + 4) vs

/-- Store bytes one after another: bytes of MAP_BUF (45 R430). -/
def Memory.writeBytes (m : Memory) (a : Nat) : List Byte → Memory
  | [] => m
  | b :: bs => Memory.writeBytes (Memory.write m a b) (a + 1) bs

/-! ### Buffer spaces -/

/-- Where a buffer's window starts (20 R101). -/
def Space.start : Space → Nat
  | .ref => 0x01000000
  | .tst => 0x02000000
  | .mask => 0x03000000
  | .store => 0x04000000
  | .map => 0x05000000

/-- How many bytes of a buffer are implemented (20 R101). -/
def Space.bytes (p : Params) : Space → Nat
  | .ref => p.frameBufBytes
  | .tst => p.frameBufBytes
  | .mask => p.maskBufBytes
  | .store => 4 * p.storeEntries
  | .map => p.storeEntries

/-- Host access RW: the host may write REF_BUF, TST_BUF and MASK_BUF (20 R101, R103). -/
def Space.hostWritable : Space → Bool
  | .ref => true
  | .tst => true
  | .mask => true
  | .store => false
  | .map => false

/-- The byte at an offset of a buffer window. A byte that nothing has written since the last hardware
reset holds a free value, fixed until it is written (93 U3, log 7). -/
def byteAt (s : State) (off : Nat) : Byte :=
  match Memory.lookup s.mem off with
  | some b => b
  | none => Config.unwrittenByte s.resets off

/-- MemRead(space, off, 1): the byte at a buffer offset (00 R13, 20 R102). -/
def readByte (s : State) (sp : Space) (boff : Nat) : Byte := byteAt s (sp.start + boff)

/-- MemRead(space, off, n), little-endian (00 R13, 20 R105). -/
def memRead (s : State) (sp : Space) (off : Nat) : Nat → Nat
  | 0 => 0
  | n + 1 => (readByte s sp off).toNat + 256 * memRead s sp (off + 1) n

/-- MemWrite(space, off, n, v), little-endian (00 R13, 20 R105). -/
def memWrite (s : State) (sp : Space) (off n v : Nat) : State :=
  { s with mem := Memory.writeLE s.mem (sp.start + off) n v }

/-! ### Acceptance and completion -/

/-- The three words accepted while ERR = 1: NOP, CLEAR_ERR and SOFT_RESET (40 R202). -/
def acceptedUnderErr (w : Word) : Bool :=
  w == 0x00000000#32 || w == 0x0000000E#32 || w == 0x0000000F#32

/-- Acceptance changes only CUR_CMD, BUSY and DONE (40 R201). -/
def accept (s : State) (w : Word) : State :=
  { s with curCmd := w, busy := true, done := false }

/-- A WRITE of a word to CMD: overrun, rejected or accepted (40 R200). -/
def issue (s : State) (w : Word) : State :=
  if s.busy then { s with cmdOvr := true }
  else if s.err && !acceptedUnderErr w then { s with rej := true }
  else accept s w

/-- The end of every completion step: BUSY <- 0 and DONE <- 1 (40 R204). -/
def complete (s : State) : State := { s with busy := false, done := true }

/-- The error commit of 40 R206 on a state that already holds the writes that survive the error:
ERR <- 1, ERRCODE <- (OP of CUR_CMD, code), then the completion (60 R512). -/
def raiseError (s : State) (code : ErrorCode) : State :=
  complete { s with err := true, errOp := opField s.curCmd, errCode := code }

/-- The return from an error: ERR and ERRCODE cleared, and the sticky bits with them (40 R211, 60 R513). -/
def clearErrors (s : State) : State :=
  { s with err := false, errOp := 0, errCode := .noError,
           rej := false, cmdOvr := false, wrDrop := false }

/-! ### Resets -/

/-- SOFT_RESET's register reset (40 R212): every register, field and result entry at its reset value,
the buffers kept. The parameters are constants, and the host's side is not the block's (log 14). -/
def resetRegisters (s : State) : State :=
  { params := s.params, mem := s.mem, resets := s.resets, draws := s.draws, inbox := s.inbox,
    response := s.response }

/-- The reset input (70 R600): the registers as after power-on, a command in flight abandoned, and the
buffer contents unspecified again: a new draw for every byte (93 U3, log 7, log 14). -/
def hardReset (s : State) : State :=
  { params := s.params, resets := s.resets + 1, draws := s.draws, inbox := s.inbox }

end Sys2Proof.Machine
end

