-- ==== Sys2Proof/Machine/Flags.lean ====
section
/-! DEFINITION. The status bits: the STATUS, ERRCODE, IRQ_EN and VALID words (10 R35 to R38, R48), the
write-one-to-clear rule (10 R36) and the interrupt level (60 R520). -/

namespace Sys2Proof.Machine

/-- A bit as a 32-bit word with that bit at position i. -/
def bitAt (b : Bool) (i : Nat) : Word := if b then 1#32 <<< i else 0#32

/-- SEQ_STATE as a number (10 R63). -/
def seqStateCode : SeqState → Word
  | .idle => 0#32
  | .opened => 1#32
  | .closed => 2#32
  | .aborted => 3#32

/-- The error codes of 60 R500. -/
def errorCodeByte : ErrorCode → Byte
  | .noError => 0x00#8
  | .illegalCmd => 0x01#8
  | .seqState => 0x02#8
  | .notConfigured => 0x03#8
  | .cfgDimZero => 0x04#8
  | .cfgDimAlign => 0x05#8
  | .cfgDimRange => 0x06#8
  | .storeFull => 0x07#8
  | .emptyPartitionRoi => 0x08#8
  | .emptyPartitionNroi => 0x09#8
  | .seqEmpty => 0x0A#8
  | .mapEmpty => 0x0B#8
  | .mapBoundInvalid => 0x0C#8
  | .mapInverted => 0x0D#8
  | .mapDegenerate => 0x0E#8

/-- The errors that are fatal for the sequence (43 R365, 60 R514). -/
def fatalForSequence : ErrorCode → Bool
  | .storeFull => true
  | .emptyPartitionRoi => true
  | .emptyPartitionNroi => true
  | _ => false

/-- The interrupt output: irq = (DONE and DONE_IE) or (ERR and ERR_IE) (60 R520). -/
def irq (s : State) : Bool := (s.done && s.doneIe) || (s.err && s.errIe)

/-- The STATUS word (10 R35): IRQ is the interrupt level, CFG_VALID is ACT_CFG.VALID. -/
def statusWord (s : State) : Word :=
  bitAt s.busy 0 ||| bitAt s.done 1 ||| bitAt s.err 2 ||| bitAt s.cmdOvr 3 ||| bitAt s.rej 4 |||
  bitAt s.wrDrop 5 ||| bitAt (irq s) 6 ||| (seqStateCode s.seqState <<< 8) ||| bitAt s.cfgValid 10

/-- A write to STATUS clears every W1C bit (DONE, CMD_OVR, REJ, WR_DROP) whose bit in the written value
is 1, even while BUSY = 1, and leaves every other bit (10 R36). -/
def writeStatus (s : State) (v : Word) : State :=
  { s with done := s.done && !v.getLsbD 1, cmdOvr := s.cmdOvr && !v.getLsbD 3,
           rej := s.rej && !v.getLsbD 4, wrDrop := s.wrDrop && !v.getLsbD 5 }

/-- The ERRCODE word: CODE in [7:0], OP in [15:8] (10 R37). -/
def errcodeWord (s : State) : Word :=
  (errorCodeByte s.errCode).setWidth 32 ||| (s.errOp.setWidth 32 <<< 8)

/-- The IRQ_EN word (10 R38). -/
def irqEnWord (s : State) : Word := bitAt s.doneIe 0 ||| bitAt s.errIe 1

/-- A write to IRQ_EN: bits [31:2] are ignored (10 R38). -/
def writeIrqEn (s : State) (v : Word) : State :=
  { s with doneIe := v.getLsbD 0, errIe := v.getLsbD 1 }

/-- The VALID word (10 R48). -/
def validWord (v : Valid) : Word :=
  bitAt v.frameAll 0 ||| bitAt v.frameRoi 1 ||| bitAt v.frameNroi 2 ||| bitAt v.seqAll 4 |||
  bitAt v.seqRoi 5 ||| bitAt v.seqNroi 6 ||| bitAt v.mapValid 8

end Sys2Proof.Machine
end

