-- ==== Sys2Proof/Machine/Float.lean ====
section
/-! DEFINITION. IEEE 754 binary64, round to nearest, ties to even (00 R14, 41 R252, R253). Every finite
value is a whole number of units of 2^-1074, so each operation computes its exact result on integers and
rounds once, as 00 R14 says (`fl` of the exact real result). PRESUMED where 00 R14 gives no words: the
standard's zeros, infinities and NaNs (log 15). -/

namespace Sys2Proof

/-! ### Fields -/

/-- The exponent field x[62:52] (45 R430). -/
def F64.expField (x : F64) : Nat := x.toNat / 2 ^ 52 % 2 ^ 11

/-- The fraction field x[51:0]. -/
def F64.fracField (x : F64) : Nat := x.toNat % 2 ^ 52

/-- The sign bit x[63]. -/
def F64.neg (x : F64) : Bool := x.getLsbD 63

/-- x without its sign bit, as a number: it grows with the magnitude, and is 0 for a zero. -/
def F64.magBits (x : F64) : Nat := x.toNat % 2 ^ 63

/-- `finite(x)` of 45 R430: the exponent field is not 0x7FF. -/
def F64.finite (x : F64) : Bool := F64.expField x != 0x7FF

def F64.isNaN (x : F64) : Bool := F64.expField x == 0x7FF && F64.fracField x != 0

def F64.isInf (x : F64) : Bool := F64.expField x == 0x7FF && F64.fracField x == 0

/-- -0.0 or +0.0. -/
def F64.isZero (x : F64) : Bool := F64.magBits x == 0

/-! ### Exact values -/

/-- The magnitude of a finite value, in units of 2^-1074. -/
def F64.mag (x : F64) : Nat :=
  if F64.expField x = 0 then F64.fracField x
  else (2 ^ 52 + F64.fracField x) * 2 ^ (F64.expField x - 1)

/-- A finite value, in units of 2^-1074: the value is `units x * 2^-1074`, exactly. -/
def F64.units (x : F64) : Int := if F64.neg x then -(F64.mag x : Int) else F64.mag x

/-- How many units 1.0 is. -/
def F64.unit : Nat := 2 ^ 1074

/-! ### Rounding -/

/-- n/d to the nearest integer, a tie to the even one. -/
def F64.roundDiv (n d : Nat) : Nat :=
  if 2 * (n % d) < d then n / d
  else if d < 2 * (n % d) then n / d + 1
  else if n / d % 2 = 0 then n / d
  else n / d + 1

/-- The exponent field of infinity, with a zero fraction. -/
def F64.infBits : Nat := 0x7FF * 2 ^ 52

/-- The power of two the last place of n/d stands for, in units: 0 in the subnormal range and the
binade above it. -/
def F64.shiftOf (n d : Nat) : Nat :=
  if n / d < 2 ^ 53 then 0 else Nat.log2 (n / d) - 52

/-- `fl` on magnitudes: the sign-less bit pattern of the binary64 nearest to n/d units, ties to even,
infinity when it is too large. A carry out of the significand moves into the exponent field, which is
where it belongs. -/
def F64.roundMag (n d : Nat) : Nat :=
  min (F64.shiftOf n d * 2 ^ 52 + F64.roundDiv n (d * 2 ^ F64.shiftOf n d)) F64.infBits

/-- A bit pattern from its sign and the rest. -/
def F64.pack (neg : Bool) (bits : Nat) : F64 :=
  BitVec.ofNat 64 ((if neg then 2 ^ 63 else 0) + bits)

/-- `fl` of the signed rational k/d, in units; an exact zero is +0.0. -/
def F64.round (k : Int) (d : Nat) : F64 := F64.pack (decide (k < 0)) (F64.roundMag k.natAbs d)

def F64.zero (neg : Bool) : F64 := F64.pack neg 0

def F64.inf (neg : Bool) : F64 := F64.pack neg F64.infBits

/-- A quiet NaN; its sign and payload are free (log 11). -/
def F64.nan (x y : F64) : F64 :=
  F64.pack ((Config.nanBits x y).getLsbD 51)
    (F64.infBits + 2 ^ 51 + (Config.nanBits x y).toNat % 2 ^ 51)

/-! ### Operations (00 R14) -/

/-- `+f`. A sum that is exactly zero is +0.0, unless both operands are -0.0. -/
def F64.add (x y : F64) : F64 :=
  if F64.isNaN x || F64.isNaN y then F64.nan x y
  else if F64.isInf x then
    if F64.isInf y && F64.neg x != F64.neg y then F64.nan x y else x
  else if F64.isInf y then y
  else if F64.units x + F64.units y = 0 then F64.zero (F64.neg x && F64.neg y)
  else F64.round (F64.units x + F64.units y) 1

/-- x with its sign bit flipped. -/
def F64.negate (x : F64) : F64 := x ^^^ (1#64 <<< 63)

/-- `-f`. -/
def F64.sub (x y : F64) : F64 := F64.add x (F64.negate y)

/-- `*f`. -/
def F64.mul (x y : F64) : F64 :=
  if F64.isNaN x || F64.isNaN y then F64.nan x y
  else if F64.isInf x || F64.isInf y then
    if F64.isZero x || F64.isZero y then F64.nan x y else F64.inf (F64.neg x != F64.neg y)
  else F64.pack (F64.neg x != F64.neg y) (F64.roundMag (F64.mag x * F64.mag y) F64.unit)

/-- `/f`. -/
def F64.div (x y : F64) : F64 :=
  if F64.isNaN x || F64.isNaN y then F64.nan x y
  else if F64.isInf x then
    if F64.isInf y then F64.nan x y else F64.inf (F64.neg x != F64.neg y)
  else if F64.isInf y then F64.zero (F64.neg x != F64.neg y)
  else if F64.isZero y then
    if F64.isZero x then F64.nan x y else F64.inf (F64.neg x != F64.neg y)
  else F64.pack (F64.neg x != F64.neg y) (F64.roundMag (F64.mag x * F64.unit) (F64.mag y))

/-- `toF64` of 41 R253. Exact below 2^53; above (no rule takes it there) it rounds (log 17). -/
def F64.ofNat (n : Nat) : F64 := F64.pack false (F64.roundMag (n * F64.unit) 1)

/-- floor(x), the greatest integer <= x, of a finite x (00 R14). -/
def F64.floor (x : F64) : Int := F64.units x / (F64.unit : Int)

/-! ### Comparisons (00 R14): -0.0 and +0.0 are equal, a NaN compares false -/

/-- The place of a value that is no NaN in the order of the extended reals. -/
def F64.rank (x : F64) : Int := if F64.neg x then -(F64.magBits x : Int) else F64.magBits x

/-- `<`. -/
def F64.lt (x y : F64) : Bool :=
  !F64.isNaN x && !F64.isNaN y && decide (F64.rank x < F64.rank y)

/-- `<=`. -/
def F64.le (x y : F64) : Bool :=
  !F64.isNaN x && !F64.isNaN y && decide (F64.rank x ≤ F64.rank y)

/-- `==`. -/
def F64.eq (x y : F64) : Bool :=
  !F64.isNaN x && !F64.isNaN y && decide (F64.rank x = F64.rank y)

end Sys2Proof
end

