-- ==== Sys2Proof/Machine/Numeric.lean ====
section
/-! DEFINITION. The numeric functions of spec/41_numerics.md: SSD, MSE, PSNR, the averages, the
percentile and the quantizer. -/

namespace Sys2Proof

/-! ### Integer part (41 R250, R251) -/

/-- `d*d` for the difference `d = r - t` of two samples, exact (41 R250). -/
def sqDiff (r t : Nat) : Nat := (((r : Int) - t) * ((r : Int) - t)).toNat

/-- `f 0 + f 1 + ... + f (n-1)`. -/
def sumTo : Nat → (Nat → Nat) → Nat
  | 0, _ => 0
  | n + 1, f => sumTo n f + f n

/-- How many i below n have `p i`. -/
def countTo (n : Nat) (p : Nat → Bool) : Nat := sumTo n (fun i => if p i then 1 else 0)

/-- The SSD of an n-by-n window whose top-left sample is at offset `top` and whose rows are `stride`
apart (41 R251, 43 R353), over two readers of samples. -/
def windowSsd (ref tst : Nat → Nat) (top stride n : Nat) : Nat :=
  sumTo n (fun r => sumTo n (fun c =>
    sqDiff (ref (top + r * stride + c)) (tst (top + r * stride + c))))

/-! ### MSE and PSNR (41 R254 to R260) -/

/-- MSEF(ssd, cnt) (41 R254). -/
def msef (ssd cnt : Nat) : F64 := F64.div (F64.ofNat ssd) (F64.ofNat cnt)

/-- LOG10_FN of 41 R256: a total function with finite values, whose product with 10.0 is finite as well,
since 41 R262 says that every PSNRF result is finite. The opaque `Config.log10Raw` is free; an answer of
it with a product that is not finite is replaced, so that every function both rules admit is still
possible (log 6, log 12). -/
def log10Fn (x : F64) : F64 :=
  if F64.finite (F64.mul (F64.ofNat 10) (Config.log10Raw x)) then Config.log10Raw x else F64.zero false

/-- PEAK2 = 255^2 (00 R8). -/
def peak2 : F64 := F64.ofNat 65025

/-- ZERO_PSNR = 100.0 (00 R8). -/
def zeroPsnr : F64 := F64.ofNat 100

/-- PSNRF of 41 R255 over a given LOG10_FN: 100.0 for m == 0, else 10.0 *f log(65025.0 /f m). -/
def psnrWith (log : F64 → F64) (m : F64) : F64 :=
  if F64.eq m (F64.zero false) then zeroPsnr
  else F64.mul (F64.ofNat 10) (log (F64.div peak2 m))

/-- PSNRF(m) (41 R255), over the block's LOG10_FN. -/
def psnrf (m : F64) : F64 := psnrWith log10Fn m

/-- WPSNRF(py, pu, pv) = ((6.0 *f py) +f pu +f pv) /f 8.0, left to right (41 R258). -/
def wpsnrf (py pu pv : F64) : F64 :=
  F64.div (F64.add (F64.add (F64.mul (F64.ofNat 6) py) pu) pv) (F64.ofNat 8)

/-- AVGF(s, n) (41 R259). -/
def avgf (s : F64) (n : Nat) : F64 := F64.div s (F64.ofNat n)

/-- BPSNRF(ssd), the PSNR of one block's luma SSD (41 R260). -/
def bpsnrf (ssd : Nat) : F64 := psnrf (F64.div (F64.ofNat ssd) (F64.ofNat 256))

/-! ### Percentile (41 R264) -/

/-- L sorted ascending. Equal values keep the order they had (log 13). -/
def sortAscending (vs : List F64) : List F64 := vs.insertionSort (fun a b => F64.le a b = true)

/-- v[i] of a sorted list. -/
def nth (vs : List F64) (i : Nat) : F64 := vs.getD i (F64.zero false)

/-- PCTF on the sorted list v: t = p*(N-1), i = t div 100, g = t mod 100, linear interpolation
(41 R264). -/
def pctSorted (p : Nat) (v : List F64) : F64 :=
  if p * (v.length - 1) % 100 = 0 then nth v (p * (v.length - 1) / 100)
  else
    F64.add (nth v (p * (v.length - 1) / 100))
      (F64.mul
        (F64.sub (nth v (p * (v.length - 1) / 100 + 1)) (nth v (p * (v.length - 1) / 100)))
        (F64.div (F64.ofNat (p * (v.length - 1) % 100)) (F64.ofNat 100)))

/-- PCTF(p, L) (41 R264). -/
def pctf (p : Nat) (vs : List F64) : F64 := pctSorted p (sortAscending vs)

/-! ### Quantizer (41 R265) -/

/-- v clamped into [lo, hi] (41 R265). -/
def clampf (v lo hi : F64) : F64 :=
  if F64.lt v lo then lo else if F64.lt hi v then hi else v

/-- s = (num /f den) *f 255.0 with num = c -f lo and den = hi -f lo (41 R265). -/
def quantScaled (v lo hi : F64) : F64 :=
  F64.mul (F64.div (F64.sub (clampf v lo hi) lo) (F64.sub hi lo)) (F64.ofNat 255)

/-- Where 41 R265 defines QUANTF: lo < hi and hi -f lo finite, for a v that is a number. -/
def quantDefined (v lo hi : F64) : Bool :=
  F64.lt lo hi && F64.finite (F64.sub hi lo) && !F64.isNaN v

/-- QUANTF(v, lo, hi) = floor(s), one byte (41 R265). Outside its domain the byte is free (log 12). -/
def quantf (v lo hi : F64) : Byte :=
  if quantDefined v lo hi then BitVec.ofNat 8 (F64.floor (quantScaled v lo hi)).toNat
  else Config.quantOutside v lo hi

end Sys2Proof
end

