-- ==== Sys2Proof/Machine/Operands.lean ====
section
/-! DEFINITION. The registers as a host and a command see them: the register map (10 R57), what each
register reads (10 R30 to R49) and what a write does to it, the result window (10 R50 to R56), and the
values a command takes from the active configuration (30 R156). -/

namespace Sys2Proof.Machine

/-! ### The register map -/

/-- The offsets of 10 R57. CMD is at 0x008, the result window is apart (`resultWord`). -/
def regTable : List (Nat × Reg) :=
  [ (0x000, .id), (0x004, .version), (0x008, .cmd), (0x00C, .status), (0x010, .errcode),
    (0x014, .irqEn), (0x020, .cfgWidth), (0x024, .cfgHeight), (0x028, .actDim), (0x02C, .actGrid),
    (0x030, .actCfg), (0x034, .frames), (0x038, .roiFrames), (0x03C, .nroiFrames),
    (0x040, .capFrameBytes), (0x044, .capMaskBytes), (0x048, .capStoreEntries),
    (0x04C, .storeCount), (0x050, .frameBlocks), (0x054, .frameRoiBlocks), (0x058, .valid),
    (0x060, .mapMinLo), (0x064, .mapMinHi), (0x068, .mapMaxLo), (0x06C, .mapMaxHi),
    (0x070, .mapMinEffLo), (0x074, .mapMinEffHi), (0x078, .mapMaxEffLo), (0x07C, .mapMaxEffHi),
    (0x080, .mapCount) ]

/-- The register at an offset, if 10 R57 assigns one. -/
def regAt (off : Nat) : Option Reg :=
  match regTable.find? (fun e => e.1 == off) with
  | some e => some e.2
  | none => none

/-- The registers whose writes are dropped while BUSY = 1 (20 R112). -/
def busyProtected : Reg → Bool
  | .cfgWidth => true
  | .cfgHeight => true
  | .mapMinLo => true
  | .mapMinHi => true
  | .mapMaxLo => true
  | .mapMaxHi => true
  | _ => false

/-! ### 64-bit values as two words (10 R56) -/

def loWord (v : BitVec 64) : Word := v.extractLsb' 0 32

def hiWord (v : BitVec 64) : Word := v.extractLsb' 32 32

def withLo (v : BitVec 64) (w : Word) : BitVec 64 := hiWord v ++ w

def withHi (v : BitVec 64) (w : Word) : BitVec 64 := w ++ loWord v

/-! ### The result window -/

/-- Stats 0..8 of the FRAME and SUM scopes; 9..15 read 0 (10 R51, R52). -/
def FrameStats.stat (r : FrameStats) : Nat → F64
  | 0 => r.mseY
  | 1 => r.mseU
  | 2 => r.mseV
  | 3 => r.mseT
  | 4 => r.psnrY
  | 5 => r.psnrU
  | 6 => r.psnrV
  | 7 => r.psnrT
  | 8 => r.wpsnr
  | _ => 0

/-- Stats 0..12 of the SEQ scope; 13..15 read 0 (10 R53). -/
def SeqStats.stat (r : SeqStats) : Nat → F64
  | 0 => r.amseY
  | 1 => r.amseU
  | 2 => r.amseV
  | 3 => r.amseT
  | 4 => r.spsnrY
  | 5 => r.spsnrU
  | 6 => r.spsnrV
  | 7 => r.spsnrT
  | 8 => r.awpsnr
  | 9 => r.apsnrY
  | 10 => r.apsnrU
  | 11 => r.apsnrV
  | 12 => r.apsnrT
  | _ => 0

/-- Stats 0..3 of the SSD scope; 4..15 read 0 (10 R54). -/
def SsdStats.stat (r : SsdStats) : Nat → BitVec 64
  | 0 => r.ssdY
  | 1 => r.ssdU
  | 2 => r.ssdV
  | 3 => r.ssdT
  | _ => 0

/-- RESULT(s, p, k) (10 R50). Partition 3 reads 0. -/
def resultEntry (s : State) : (scope part k : Nat) → BitVec 64
  | 0, 0, k => s.resFrame.all.stat k
  | 0, 1, k => s.resFrame.roi.stat k
  | 0, 2, k => s.resFrame.nroi.stat k
  | 1, 0, k => s.resSum.all.stat k
  | 1, 1, k => s.resSum.roi.stat k
  | 1, 2, k => s.resSum.nroi.stat k
  | 2, 0, k => s.resSeq.all.stat k
  | 2, 1, k => s.resSeq.roi.stat k
  | 2, 2, k => s.resSeq.nroi.stat k
  | 3, 0, k => s.resSsd.all.stat k
  | 3, 1, k => s.resSsd.roi.stat k
  | 3, 2, k => s.resSsd.nroi.stat k
  | _, _, _ => 0

/-- off(s, p, k) = 0x400 + 8*((s*4 + p)*16 + k) (10 R50). -/
def resultOffset (scope part k : Nat) : Nat := 0x400 + 8 * ((scope * 4 + part) * 16 + k)

/-- The word at an offset of the result window: the LO word at off(s, p, k), the HI word 4 above
(10 R50, R56). -/
def resultWord (s : State) (off : Nat) : Word :=
  if (off - 0x400) % 8 < 4 then
    loWord (resultEntry s ((off - 0x400) / 8 / 64) ((off - 0x400) / 8 / 16 % 4) ((off - 0x400) / 8 % 16))
  else
    hiWord (resultEntry s ((off - 0x400) / 8 / 64) ((off - 0x400) / 8 / 16 % 4) ((off - 0x400) / 8 % 16))

/-! ### Reading and writing registers -/

/-- What a register reads (10 R31 to R49). CMD reads 0 (10 R33). -/
def readReg (s : State) : Reg → Word
  | .id => 0x50534E52#32
  | .version => 0x00000100#32
  | .cmd => 0#32
  | .status => statusWord s
  | .errcode => errcodeWord s
  | .irqEn => irqEnWord s
  | .cfgWidth => s.cfgWidth.setWidth 32
  | .cfgHeight => s.cfgHeight.setWidth 32
  | .actDim => s.actH ++ s.actW
  | .actGrid => s.nbh ++ s.nbw
  | .actCfg => bitAt s.cfgValid 0 ||| bitAt s.roiEn 1 ||| bitAt s.epSkip 2
  | .frames => s.frames
  | .roiFrames => s.roiFrames
  | .nroiFrames => s.nroiFrames
  | .capFrameBytes => BitVec.ofNat 32 s.params.frameBufBytes
  | .capMaskBytes => BitVec.ofNat 32 s.params.maskBufBytes
  | .capStoreEntries => BitVec.ofNat 32 s.params.storeEntries
  | .storeCount => s.storeCount
  | .frameBlocks => s.frameBlocks
  | .frameRoiBlocks => s.frameRoiBlocks
  | .valid => validWord s.valid
  | .mapMinLo => loWord s.mapMin
  | .mapMinHi => hiWord s.mapMin
  | .mapMaxLo => loWord s.mapMax
  | .mapMaxHi => hiWord s.mapMax
  | .mapMinEffLo => loWord s.mapMinEff
  | .mapMinEffHi => hiWord s.mapMinEff
  | .mapMaxEffLo => loWord s.mapMaxEff
  | .mapMaxEffHi => hiWord s.mapMaxEff
  | .mapCount => s.mapCount

/-- What a read at a 4-byte-aligned offset of the register window answers; an unassigned offset reads 0
(10 R30). -/
def readWindow (s : State) (off : Nat) : Word :=
  if 0x400 ≤ off ∧ off < 0xC00 then resultWord s off
  else
    match regAt off with
    | some r => readReg s r
    | none => 0#32

/-- What a write to a writable register does when it is not dropped (10 R33, R36, R38 to R40, R49).
Every other register is read-only: the write is ignored (10 R30). -/
def storeReg (s : State) (v : Word) : Reg → State
  | .cmd => issue s v
  | .status => writeStatus s v
  | .irqEn => writeIrqEn s v
  | .cfgWidth => { s with cfgWidth := v.setWidth 16 }
  | .cfgHeight => { s with cfgHeight := v.setWidth 16 }
  | .mapMinLo => { s with mapMin := withLo s.mapMin v }
  | .mapMinHi => { s with mapMin := withHi s.mapMin v }
  | .mapMaxLo => { s with mapMax := withLo s.mapMax v }
  | .mapMaxHi => { s with mapMax := withHi s.mapMax v }
  | _ => s

/-- A write to a register: a busy-protected one is dropped while BUSY = 1 and sets WR_DROP (20 R112). -/
def writeReg (s : State) (r : Reg) (v : Word) : State :=
  if busyProtected r && s.busy then { s with wrDrop := true } else storeReg s v r

/-- A write at an offset of the register window: the result window is RO, an unassigned offset ignores
it (10 R30, R50). -/
def writeWindow (s : State) (off : Nat) (v : Word) : State :=
  match regAt off with
  | some r => writeReg s r v
  | none => s

/-! ### Operands of the commands (30 R156) -/

/-- NB = NBW * NBH, the blocks of a frame (42 R300, 43 R351). -/
def frameBlockCount (s : State) : Nat := s.nbw.toNat * s.nbh.toNat

/-- A sample of REF_BUF as a number (43 R353). -/
def refSample (s : State) (off : Nat) : Nat := (readByte s .ref off).toNat

/-- A sample of TST_BUF as a number (43 R353). -/
def tstSample (s : State) (off : Nat) : Nat := (readByte s .tst off).toNat

/-- roi[b] of 43 R355: with ROI_EN = 1, the mask byte of the block is nonzero; else false. -/
def roiFlag (s : State) (b : Nat) : Bool := s.roiEn && readByte s .mask b != 0#8

/-- nroi of 43 R355. -/
def roiBlockCount (s : State) : Nat := countTo (frameBlockCount s) (roiFlag s)

end Sys2Proof.Machine
end

