-- ==== Sys2Proof/Machine/Bus.lean ====
section
/-! DEFINITION. Bus transactions: the address map, the access checks, busy protection and the reads that
are unspecified (spec/20). -/

namespace Sys2Proof.Machine

/-! ### The address map (20 R101) -/

/-- What an offset of the block addresses. -/
inductive Target where
  /-- The register window. -/
  | registers
  /-- A buffer's window, with the buffer byte offset of 20 R102. -/
  | buffer (sp : Space) (boff : Nat)
  /-- No window: BUSERR. -/
  | unmapped
deriving DecidableEq, Repr

/-- The windows of 20 R101. -/
def target (off : Nat) : Target :=
  if off < 0x00001000 then .registers
  else if off < 0x01000000 then .unmapped
  else if off < 0x02000000 then .buffer .ref (off - 0x01000000)
  else if off < 0x03000000 then .buffer .tst (off - 0x02000000)
  else if off < 0x04000000 then .buffer .mask (off - 0x03000000)
  else if off < 0x05000000 then .buffer .store (off - 0x04000000)
  else if off < 0x06000000 then .buffer .map (off - 0x05000000)
  else .unmapped

/-- The register window accepts only aligned 4-byte accesses (20 R106). -/
def registerAccessOk (off : Nat) (sz : Size) : Bool :=
  decide (sz = .four) && decide (off % 4 = 0)

/-- A buffer access is naturally aligned and touches implemented bytes only (20 R103, R107). -/
def bufferAccessOk (p : Params) (sp : Space) (boff : Nat) (sz : Size) : Bool :=
  decide (boff % sz.bytes = 0) && decide (boff + sz.bytes ≤ sp.bytes p)

/-! ### Unspecified reads (20 R114) -/

/-- A MAP command is BUSY: its word is in flight (20 R114, log 8). -/
def mapInFlight (s : State) : Bool :=
  s.busy &&
  match decode s.curCmd with
  | .ok (.map _ _) => true
  | _ => false

/-- A host READ of this buffer byte returns the stored byte; where this is false it returns any value
(20 R114). An SSD_STORE entry at or above STORE_COUNT is unspecified also while a FRAME is BUSY, as
STORE_COUNT is then the pre-command one (20 R113). -/
def byteSpecified (s : State) (sp : Space) (boff : Nat) : Bool :=
  match sp with
  | .ref => true
  | .tst => true
  | .mask => true
  | .store => decide (boff / 4 < s.storeCount.toNat)
  | .map => s.valid.mapValid && decide (boff < s.mapCount.toNat) && !mapInFlight s

/-- The byte a host READ returns: the stored byte, or a byte of this read's draw (93 U4, log 8). -/
def hostByte (s : State) (sp : Space) (boff i : Nat) : Byte :=
  if byteSpecified s sp (boff + i) then readByte s sp (boff + i)
  else (Config.unspecifiedRead s.draws).extractLsb' (8 * i) 8

/-- The bytes i, i+1, ... of a host READ as a little-endian number (20 R105). -/
def hostBytes (s : State) (sp : Space) (boff : Nat) : (i n : Nat) → Nat
  | _, 0 => 0
  | i, n + 1 => (hostByte s sp boff i).toNat + 256 * hostBytes s sp boff (i + 1) n

/-- Every byte the READ touches is specified. -/
def readSpecified (s : State) (sp : Space) (boff : Nat) (sz : Size) : Bool :=
  (List.range sz.bytes).all (fun i => byteSpecified s sp (boff + i))

/-! ### The transaction -/

/-- The transaction is answered with BUSERR: no state of the block changes (20 R108, log 2). -/
def answerBusErr (s : State) : State := { s with response := some .busErr }

/-- A READ of the register window: no side effect (20 R110). -/
def readRegisters (s : State) (off : Nat) : State :=
  { s with response := some (.okRead (readWindow s off)) }

/-- A WRITE of the register window; it is answered OK whatever becomes of it (10 R30, 20 R112, log 19). -/
def writeRegisters (s : State) (off : Nat) (w : Word) : State :=
  { writeWindow s off w with response := some .okWrite }

/-- A READ of a buffer: no side effect on the block; a read that is unspecified uses up a draw (log 8). -/
def readBuffer (s : State) (sp : Space) (boff : Nat) (sz : Size) : State :=
  { s with
    response := some (.okRead (BitVec.ofNat 32 (hostBytes s sp boff 0 sz.bytes))),
    draws := if readSpecified s sp boff sz then s.draws else s.draws + 1 }

/-- A WRITE of an input buffer: stored, or dropped with WR_DROP while BUSY = 1 (20 R103, R112). -/
def writeBuffer (s : State) (sp : Space) (boff : Nat) (sz : Size) (w : Word) : State :=
  if s.busy then { s with wrDrop := true, response := some .okWrite }
  else { memWrite s sp boff sz.bytes w.toNat with response := some .okWrite }

/-- One transaction at an offset of the block (20 R100 to R108, R112). -/
def hostAccess (s : State) (a : Access) (off : Nat) (sz : Size) : State :=
  match target off with
  | .registers =>
    if registerAccessOk off sz then
      match a with
      | .read => readRegisters s off
      | .write w => writeRegisters s off w
    else answerBusErr s
  | .buffer sp boff =>
    if bufferAccessOk s.params sp boff sz then
      match a with
      | .read => readBuffer s sp boff sz
      | .write w => if sp.hostWritable then writeBuffer s sp boff sz w else answerBusErr s
    else answerBusErr s
  | .unmapped => answerBusErr s

/-- The block decodes off = addr - BASE for 0 <= off < 2^27 (20 R100). -/
def inBlock (p : Params) (addr : Nat) : Bool :=
  decide (p.base ≤ addr) && decide (addr < p.base + 2 ^ 27)

/-- A transaction at a bus address. One outside the block's range is not the block's (20 R100, log 3). -/
def busTransaction (s : State) (t : Transaction) : Host.Outcome State Fault Refusal :=
  if inBlock s.params t.addr then .next (hostAccess s t.access (t.addr - s.params.base) t.size)
  else .fault (.notThisBlock t.addr)

end Sys2Proof.Machine
end

