-- ==== Sys2Proof/Machine/Frame.lean ====
section
/-! DEFINITION. FRAME: the block SSDs, the ROI partition, the frame statistics, the sequence sums and
the SSD store (spec/43). -/

namespace Sys2Proof.Machine

/-! ### Geometry and block SSDs (43 R352, R353) -/

/-- The top-left luma offset of block b: by*16*W + bx*16 (43 R352). -/
def lumaTop (s : State) (b : Nat) : Nat :=
  b / s.nbw.toNat * 16 * s.actW.toNat + b % s.nbw.toNat * 16

/-- The top-left offset of block b within a chroma plane: by*8*(W/2) + bx*8 (43 R352). -/
def chromaTop (s : State) (b : Nat) : Nat :=
  b / s.nbw.toNat * 8 * (s.actW.toNat / 2) + b % s.nbw.toNat * 8

/-- Where the U plane starts: W*H (10 R61). -/
def uPlane (s : State) : Nat := s.actW.toNat * s.actH.toNat

/-- Where the V plane starts: W*H + (W/2)*(H/2) (10 R61). -/
def vPlane (s : State) : Nat := uPlane s + s.actW.toNat / 2 * (s.actH.toNat / 2)

/-- sy[b] (43 R353). -/
def blockSsdY (s : State) (b : Nat) : Nat :=
  windowSsd (refSample s) (tstSample s) (lumaTop s b) s.actW.toNat 16

/-- su[b] (43 R353). -/
def blockSsdU (s : State) (b : Nat) : Nat :=
  windowSsd (refSample s) (tstSample s) (uPlane s + chromaTop s b) (s.actW.toNat / 2) 8

/-- sv[b] (43 R353). -/
def blockSsdV (s : State) (b : Nat) : Nat :=
  windowSsd (refSample s) (tstSample s) (vPlane s + chromaTop s b) (s.actW.toNat / 2) 8

/-! ### Partition totals (43 R357, R358) -/

/-- The exact integer SSD totals of one partition, per plane. -/
structure PlaneTotals where
  y : Nat
  u : Nat
  v : Nat
deriving DecidableEq, Repr

/-- The total pseudo-plane T (43 R358). -/
def PlaneTotals.t (p : PlaneTotals) : Nat := p.y + p.u + p.v

/-- The sum over the blocks of the frame that `sel` selects. -/
def sumBlocks (s : State) (sel : Nat → Bool) (ssd : Nat → Nat) : Nat :=
  sumTo (frameBlockCount s) (fun b => if sel b then ssd b else 0)

/-- A_Y, A_U, A_V: every block (43 R357). -/
def allTotals (s : State) : PlaneTotals where
  y := sumBlocks s (fun _ => true) (blockSsdY s)
  u := sumBlocks s (fun _ => true) (blockSsdU s)
  v := sumBlocks s (fun _ => true) (blockSsdV s)

/-- R_Y, R_U, R_V: the ROI blocks (43 R357). -/
def roiTotals (s : State) : PlaneTotals where
  y := sumBlocks s (roiFlag s) (blockSsdY s)
  u := sumBlocks s (roiFlag s) (blockSsdU s)
  v := sumBlocks s (roiFlag s) (blockSsdV s)

/-- N_X = A_X - R_X (43 R358). -/
def nroiTotals (s : State) : PlaneTotals where
  y := (allTotals s).y - (roiTotals s).y
  u := (allTotals s).u - (roiTotals s).u
  v := (allTotals s).v - (roiTotals s).v

/-! ### Validity, statistics, sums (43 R359 to R363) -/

/-- valid(ROI): ROI_EN == 1 and nroi > 0 (43 R360). -/
def roiValid (s : State) : Bool := s.roiEn && decide (0 < roiBlockCount s)

/-- valid(NROI): ROI_EN == 1 and nroi < NB (43 R360). -/
def nroiValid (s : State) : Bool := s.roiEn && decide (roiBlockCount s < frameBlockCount s)

/-- The SSD scope's entries of one partition (43 R359). -/
def ssdStats (p : PlaneTotals) : SsdStats where
  ssdY := BitVec.ofNat 64 p.y
  ssdU := BitVec.ofNat 64 p.u
  ssdV := BitVec.ofNat 64 p.v
  ssdT := BitVec.ofNat 64 p.t

/-- The FRAME scope's entries of one valid partition of n blocks (43 R361, 41 R257). -/
def frameStats (p : PlaneTotals) (n : Nat) : FrameStats where
  mseY := msef p.y (n * 256)
  mseU := msef p.u (n * 64)
  mseV := msef p.v (n * 64)
  mseT := msef p.t (n * 384)
  psnrY := psnrf (msef p.y (n * 256))
  psnrU := psnrf (msef p.u (n * 64))
  psnrV := psnrf (msef p.v (n * 64))
  psnrT := psnrf (msef p.t (n * 384))
  wpsnr := wpsnrf (psnrf (msef p.y (n * 256))) (psnrf (msef p.u (n * 64))) (psnrf (msef p.v (n * 64)))

/-- The FRAME scope's entries of a partition: +0.0 each when it is invalid (43 R361). -/
def partitionStats (valid : Bool) (p : PlaneTotals) (n : Nat) : FrameStats :=
  if valid then frameStats p n else {}

/-- RESULT(1, p, k) +f RESULT(0, p, k) for k = 0..8 (43 R362). -/
def addStats (sum new : FrameStats) : FrameStats where
  mseY := F64.add sum.mseY new.mseY
  mseU := F64.add sum.mseU new.mseU
  mseV := F64.add sum.mseV new.mseV
  mseT := F64.add sum.mseT new.mseT
  psnrY := F64.add sum.psnrY new.psnrY
  psnrU := F64.add sum.psnrU new.psnrU
  psnrV := F64.add sum.psnrV new.psnrV
  psnrT := F64.add sum.psnrT new.psnrT
  wpsnr := F64.add sum.wpsnr new.wpsnr

/-- The sequence sums of a partition after this frame; an invalid partition's are unchanged (43 R362). -/
def partitionSums (valid : Bool) (sum new : FrameStats) : FrameStats :=
  if valid then addStats sum new else sum

/-- A frame counter after this frame (43 R363). -/
def countIf (valid : Bool) (n : Word) : Word := if valid then n + 1#32 else n

/-! ### The command -/

/-- FRAME's checks, made before any state change, in the order of 43 R351, R355 and 60 R510. -/
def frameCheck (s : State) : Option ErrorCode :=
  if s.seqState ≠ .opened then some .seqState
  else if s.params.storeEntries < s.storeCount.toNat + frameBlockCount s then some .storeFull
  else if s.roiEn = true ∧ s.epSkip = false ∧ roiBlockCount s = 0 then some .emptyPartitionRoi
  else if s.roiEn = true ∧ s.epSkip = false ∧ roiBlockCount s = frameBlockCount s then
    some .emptyPartitionNroi
  else none

/-- The write that survives a fatal frame error: SEQ_STATE <- ABORTED (43 R365). -/
def abortIfFatal (s : State) (e : ErrorCode) : State :=
  if fatalForSequence e then { s with seqState := .aborted } else s

/-- The frame statistics of the three partitions (43 R361). -/
def frameResults (s : State) : Parts FrameStats where
  all := frameStats (allTotals s) (frameBlockCount s)
  roi := partitionStats (roiValid s) (roiTotals s) (roiBlockCount s)
  nroi := partitionStats (nroiValid s) (nroiTotals s) (frameBlockCount s - roiBlockCount s)

/-- The integer totals of the three partitions (43 R359): 0 for ROI and NROI when ROI_EN = 0. -/
def ssdResults (s : State) : Parts SsdStats where
  all := ssdStats (allTotals s)
  roi := if s.roiEn then ssdStats (roiTotals s) else {}
  nroi := if s.roiEn then ssdStats (nroiTotals s) else {}

/-- The sequence sums after this frame (43 R362). -/
def sumResults (s : State) : Parts FrameStats where
  all := addStats s.resSum.all (frameResults s).all
  roi := partitionSums (roiValid s) s.resSum.roi (frameResults s).roi
  nroi := partitionSums (nroiValid s) s.resSum.nroi (frameResults s).nroi

/-- The luma SSDs of the frame's blocks, in raster order (43 R352, R354). -/
def lumaSsds (s : State) : List Nat := (List.range (frameBlockCount s)).map (blockSsdY s)

/-- FRAME's writes (43 R354, R359, R361 to R364). -/
def commitFrame (s : State) : State :=
  { s with
    mem := Memory.writeEntries s.mem (Space.store.start + 4 * s.storeCount.toNat) (lumaSsds s),
    resSsd := ssdResults s,
    resFrame := frameResults s,
    resSum := sumResults s,
    valid := { s.valid with frameAll := true, frameRoi := roiValid s, frameNroi := nroiValid s },
    frames := s.frames + 1#32,
    roiFrames := countIf (roiValid s) s.roiFrames,
    nroiFrames := countIf (nroiValid s) s.nroiFrames,
    storeCount := s.storeCount + BitVec.ofNat 32 (frameBlockCount s),
    frameBlocks := BitVec.ofNat 32 (frameBlockCount s),
    frameRoiBlocks := BitVec.ofNat 32 (roiBlockCount s) }

/-- FRAME (43 R350). -/
def execFrame (s : State) : Host.Outcome State Fault Refusal :=
  match frameCheck s with
  | some e => .next (raiseError (abortIfFatal s e) e)
  | none => .next (complete (commitFrame s))

end Sys2Proof.Machine
end

