-- ==== Sys2Proof/Machine/Map.lean ====
section
/-! DEFINITION. MAP: the quality-map quantizer (spec/45). -/

namespace Sys2Proof.Machine

/-- Entry i of SSD_STORE: MemRead(STORE, 4*i, 4) (45 R430). -/
def storeEntry (s : State) (i : Nat) : Nat := memRead s .store (4 * i) 4

/-- P[i] = BPSNRF(ssd_i) for every block of the sequence (45 R430, R433). -/
def blockPsnrs (s : State) : List F64 :=
  (List.range s.storeCount.toNat).map (fun i => bpsnrf (storeEntry s i))

/-- The lower bound: MAP_MIN when MIN_X = 1, else the 10th percentile (45 R434). -/
def lowerBound (s : State) (minX : Bool) : F64 :=
  if minX then s.mapMin else pctf 10 (blockPsnrs s)

/-- The upper bound: MAP_MAX when MAX_X = 1, else the 90th percentile (45 R434). -/
def upperBound (s : State) (maxX : Bool) : F64 :=
  if maxX then s.mapMax else pctf 90 (blockPsnrs s)

/-- MAP's checks before the bounds are known, in the order of 45 R430; nothing survives these. -/
def mapCheck (s : State) (minX maxX : Bool) : Option ErrorCode :=
  if s.seqState ≠ .closed then some .seqState
  else if s.storeCount = 0 then some .mapEmpty
  else if minX = true ∧ F64.finite s.mapMin = false then some .mapBoundInvalid
  else if maxX = true ∧ F64.finite s.mapMax = false then some .mapBoundInvalid
  else none

/-- MAP's checks of the bounds, in the order of 45 R430. -/
def boundCheck (lo hi : F64) : Option ErrorCode :=
  if F64.lt hi lo then some .mapInverted
  else if F64.eq hi lo then some .mapDegenerate
  else if F64.sub hi lo = F64.inf false then some .mapBoundInvalid
  else none

/-- MAP_MIN_EFF and MAP_MAX_EFF take the bounds once they are known (45 R437). -/
def withBounds (s : State) (lo hi : F64) : State := { s with mapMinEff := lo, mapMaxEff := hi }

/-- The writes that survive a bound error: the effective bounds, MAP_COUNT <- 0 and
VALID.MAP_VALID <- 0 (45 R430, R437). -/
def boundErrorWrites (s : State) (lo hi : F64) : State :=
  { withBounds s lo hi with mapCount := 0, valid := { s.valid with mapValid := false } }

/-- The quality bytes, in the order of SSD_STORE (45 R432, R435). -/
def mapBytes (s : State) (lo hi : F64) : List Byte :=
  (blockPsnrs s).map (fun v => quantf v lo hi)

/-- MAP's writes on success (45 R430). -/
def commitMap (s : State) (lo hi : F64) : State :=
  { withBounds s lo hi with
    mem := Memory.writeBytes s.mem Space.map.start (mapBytes s lo hi),
    mapCount := s.storeCount,
    valid := { s.valid with mapValid := true } }

/-- MAP once its bounds are known (45 R430). -/
def mapWithBounds (s : State) (lo hi : F64) : State :=
  match boundCheck lo hi with
  | some e => raiseError (boundErrorWrites s lo hi) e
  | none => complete (commitMap s lo hi)

/-- MAP (45 R430). -/
def execMap (minX maxX : Bool) (s : State) : Host.Outcome State Fault Refusal :=
  match mapCheck s minX maxX with
  | some e => .next (raiseError s e)
  | none => .next (mapWithBounds s (lowerBound s minX) (upperBound s maxX))

end Sys2Proof.Machine
end

