-- ==== Sys2Proof/Machine/SeqFinish.lean ====
section
/-! DEFINITION. SEQ_FINISH: the sequence averages (spec/44). -/

namespace Sys2Proof.Machine

/-- valid(p) of 44 R400 for p in ROI, NROI: ROI_EN == 1 and nf(p) >= 1. -/
def seqPartValid (s : State) (nf : Word) : Bool := s.roiEn && decide (1 ≤ nf.toNat)

/-- The SEQ scope's entries of one valid partition with n frames (44 R400, R402): AMSE is the average
of the per-frame MSE, SPSNR is PSNRF of that average, AWPSNR and APSNR are averages of the per-frame
values. -/
def seqStats (sum : FrameStats) (n : Nat) : SeqStats where
  amseY := avgf sum.mseY n
  amseU := avgf sum.mseU n
  amseV := avgf sum.mseV n
  amseT := avgf sum.mseT n
  spsnrY := psnrf (avgf sum.mseY n)
  spsnrU := psnrf (avgf sum.mseU n)
  spsnrV := psnrf (avgf sum.mseV n)
  spsnrT := psnrf (avgf sum.mseT n)
  awpsnr := avgf sum.wpsnr n
  apsnrY := avgf sum.psnrY n
  apsnrU := avgf sum.psnrU n
  apsnrV := avgf sum.psnrV n
  apsnrT := avgf sum.psnrT n

/-- The SEQ scope's entries of a partition: +0.0 each when it is invalid (44 R400). -/
def seqPartStats (valid : Bool) (sum : FrameStats) (n : Nat) : SeqStats :=
  if valid then seqStats sum n else {}

/-- The SEQ scope after SEQ_FINISH; each partition's divisor is its own frame counter (44 R400, R401). -/
def seqResults (s : State) : Parts SeqStats where
  all := seqStats s.resSum.all s.frames.toNat
  roi := seqPartStats (seqPartValid s s.roiFrames) s.resSum.roi s.roiFrames.toNat
  nroi := seqPartStats (seqPartValid s s.nroiFrames) s.resSum.nroi s.nroiFrames.toNat

/-- SEQ_FINISH's checks, in the order of 44 R400. -/
def seqFinishCheck (s : State) : Option ErrorCode :=
  if s.seqState ≠ .opened then some .seqState
  else if s.frames = 0 then some .seqEmpty
  else none

/-- SEQ_FINISH's writes (44 R400). -/
def closeSequence (s : State) : State :=
  { s with
    resSeq := seqResults s,
    valid := { s.valid with
      seqAll := true, seqRoi := seqPartValid s s.roiFrames, seqNroi := seqPartValid s s.nroiFrames },
    seqState := .closed }

/-- SEQ_FINISH (44 R400). Nothing survives an error. -/
def execSeqFinish (s : State) : Host.Outcome State Fault Refusal :=
  match seqFinishCheck s with
  | some e => .next (raiseError s e)
  | none => .next (complete (closeSequence s))

end Sys2Proof.Machine
end

