-- ==== Sys2Proof/Machine/Sequence.lean ====
section
/-! DEFINITION. Configuration and sequence start: CONFIG and SEQ_START (spec/42). -/

namespace Sys2Proof.Machine

/-! ### CONFIG (42 R300) -/

/-- NB of a frame of W by H samples (42 R300). -/
def stagedBlocks (w h : Nat) : Nat := (w / 16) * (h / 16)

/-- The capacity check of 42 R300 fails: the frame, the block count or the mask does not fit. -/
def overCapacity (p : Params) (roiEn : Bool) (w h : Nat) : Bool :=
  decide (p.frameBufBytes < w * h * 3 / 2) || decide (p.storeEntries < stagedBlocks w h) ||
  (roiEn && decide (p.maskBufBytes < stagedBlocks w h))

/-- CONFIG's checks in the order of 42 R300 and 60 R510; the first that fails. -/
def configCheck (s : State) (roiEn : Bool) : Option ErrorCode :=
  if s.seqState = .opened then some .seqState
  else if s.cfgWidth = 0 ∨ s.cfgHeight = 0 then some .cfgDimZero
  else if s.cfgWidth.toNat % 16 ≠ 0 ∨ s.cfgHeight.toNat % 16 ≠ 0 then some .cfgDimAlign
  else if overCapacity s.params roiEn s.cfgWidth.toNat s.cfgHeight.toNat then some .cfgDimRange
  else none

/-- CONFIG's writes: ACT_DIM, ACT_GRID and ACT_CFG (42 R300). -/
def latchConfig (s : State) (roiEn epSkip : Bool) : State :=
  { s with
    actW := s.cfgWidth, actH := s.cfgHeight,
    nbw := BitVec.ofNat 16 (s.cfgWidth.toNat / 16), nbh := BitVec.ofNat 16 (s.cfgHeight.toNat / 16),
    cfgValid := true, roiEn := roiEn, epSkip := epSkip }

/-- CONFIG (42 R300). Nothing survives an error. -/
def execConfig (roiEn epSkip : Bool) (s : State) : Host.Outcome State Fault Refusal :=
  match configCheck s roiEn with
  | some e => .next (raiseError s e)
  | none => .next (complete (latchConfig s roiEn epSkip))

/-! ### SEQ_START (42 R310) -/

/-- SEQ_START's writes: the counters, VALID, every result entry, the effective bounds and MAP_COUNT
cleared, SEQ_STATE <- OPEN (42 R310). -/
def openSequence (s : State) : State :=
  { s with
    frames := 0, roiFrames := 0, nroiFrames := 0,
    storeCount := 0, frameBlocks := 0, frameRoiBlocks := 0,
    valid := {},
    resFrame := ⟨{}, {}, {}⟩, resSum := ⟨{}, {}, {}⟩, resSeq := ⟨{}, {}, {}⟩, resSsd := ⟨{}, {}, {}⟩,
    mapMinEff := 0, mapMaxEff := 0, mapCount := 0,
    seqState := .opened }

/-- SEQ_START (42 R310). Nothing survives an error. -/
def execSeqStart (s : State) : Host.Outcome State Fault Refusal :=
  if s.cfgValid = false then .next (raiseError s .notConfigured)
  else .next (complete (openSequence s))

end Sys2Proof.Machine
end

