-- ==== Sys2Proof/Machine/System.lean ====
section
/-! DEFINITION. The system commands: NOP, CLEAR_ERR and SOFT_RESET (40 R210 to R212). None of them can
fail, and all three are accepted while ERR = 1 (40 R202). -/

namespace Sys2Proof.Machine

/-- NOP (40 R210): nothing but the completion. -/
def execNop (s : State) : Host.Outcome State Fault Refusal := .next (complete s)

/-- CLEAR_ERR (40 R211): ERR, ERRCODE, REJ, CMD_OVR and WR_DROP cleared, then the completion. -/
def execClearErr (s : State) : Host.Outcome State Fault Refusal := .next (complete (clearErrors s))

/-- SOFT_RESET (40 R212): every register at its reset value, the buffers kept, then the completion. -/
def execSoftReset (s : State) : Host.Outcome State Fault Refusal :=
  .next (complete (resetRegisters s))

end Sys2Proof.Machine
end

