-- ==== Sys2Proof/Machine/Dispatch.lean ====
section
/-! DEFINITION. Each command's meaning: what its completion step does (40 R204). -/

namespace Sys2Proof.Machine

def exec (i : Instr) (s : State) : Host.Outcome State Fault Refusal :=
  match i with
  | .nop => Sys2Proof.Machine.execNop s
  | .config roiEn epSkip => Sys2Proof.Machine.execConfig roiEn epSkip s
  | .seqStart => Sys2Proof.Machine.execSeqStart s
  | .frame => Sys2Proof.Machine.execFrame s
  | .seqFinish => Sys2Proof.Machine.execSeqFinish s
  | .map minX maxX => Sys2Proof.Machine.execMap minX maxX s
  | .clearErr => Sys2Proof.Machine.execClearErr s
  | .softReset => Sys2Proof.Machine.execSoftReset s

end Sys2Proof.Machine
end

