-- ==== Sys2Proof/Machine/Engine.lean ====
section
/-! DEFINITION. What the step needs besides the commands' meanings: the completion of an ILLEGAL word
and the inbox. -/

namespace Sys2Proof.Machine

/-- An accepted ILLEGAL word completes with ILLEGAL_CMD and has no other effect (30 R157). -/
def illegalCommand (s : State) : State := raiseError s .illegalCmd

/-- The state with what happens next replaced. -/
def withInbox (s : State) (q : List HostEvent) : State := { s with inbox := q }

/-- The state in which the engine moves next: its step is put before whatever is pending; with nothing
pending it moves next anyway. -/
def engineNext (s : State) : State :=
  match s.inbox with
  | [] => s
  | e :: q => withInbox s (.engine :: e :: q)

end Sys2Proof.Machine
end

