-- ==== Sys2Proof/Machine/Step.lean ====
section
/-! DEFINITION. One step of the machine: what the head of the inbox says happens next (log 1), or, with
nothing pending, the engine's step. -/

namespace Sys2Proof.Machine

/-- The engine's step: while BUSY = 1 the completion step of CUR_CMD, which runs `exec` of the command it
decodes to, or completes an ILLEGAL word with ILLEGAL_CMD (40 R204, 30 R157). While BUSY = 0 the engine has
no enabled step, and the block idles (70 R601, log 4). -/
def engineStep (s : State) : Host.Outcome State Fault Refusal :=
  if s.busy then
    match decode s.curCmd with
    | .ok i => exec i s
    | .error _ => .next (illegalCommand s)
  else .next s

/-- One step (20 R115: a transaction, an engine step or a reset, one at a time). -/
def step (s : State) : Host.Outcome State Fault Refusal :=
  match s.inbox with
  | [] => engineStep s
  | .engine :: rest => engineStep (withInbox s rest)
  | .bus t :: rest => busTransaction (withInbox s rest) t
  | .reset :: rest => .next (hardReset (withInbox s rest))

/-- `s` with the command word `w` (its bits from `nbits` up zero) accepted into CUR_CMD, which is where the
engine takes its next command from, and the engine's step next (log 9). -/
def State.withFetchWord (s : State) (nbits w : Nat) : State :=
  engineNext (accept s (BitVec.ofNat 32 (w % 2 ^ nbits)))

end Sys2Proof.Machine
end

