-- ==== Sys2Proof/Machine/HostProgram.lean ====
section
/-! DEFINITION. Host programs (30 R158 to R160): the expansion of a line into bus operations, and an
executor under fuel that performs them through `step`. -/

namespace Sys2Proof.Machine

/-- One elementary act of a host program: a transaction at an offset from BASE, an EXPECT on a READ, or a
WAIT (30 R158, R160). -/
inductive HostAct where
  | access (a : Access) (off : Nat) (size : Size)
  | expect (off : Nat) (size : Size) (v : Word)
  | waitIdle
deriving DecidableEq, Repr

/-- W8 off+i, b for i = 0 .. n-1, in increasing i (30 R160). -/
def expandFill (off n : Nat) (b : Byte) : List HostAct :=
  (List.range n).map (fun i => .access (.write (b.setWidth 32)) (off + i) .one)

/-- W32 0x008, enc(m) (30 R160). -/
def issueAct (m : Spelling) : HostAct := .access (.write m.enc) 0x008 .four

/-- The expansion of a line (30 R158, R160). -/
def expandLine : HostLine → List HostAct
  | .write sz off v => [.access (.write v) off sz]
  | .read sz off => [.access .read off sz]
  | .expect sz off v => [.expect off sz v]
  | .cmd m => [issueAct m]
  | .wait => [.waitIdle]
  | .write64 off v => [.access (.write (loWord v)) off .four, .access (.write (hiWord v)) (off + 4) .four]
  | .read64 off => [.access .read off .four, .access .read (off + 4) .four]
  | .expect64 off v => [.expect off .four (loWord v), .expect (off + 4) .four (hiWord v)]
  | .fill off n b => expandFill off n b
  | .run m => [issueAct m, .waitIdle]

/-- The expansion of a program. -/
def expandProgram (p : List HostLine) : List HostAct := p.flatMap expandLine

/-- What became of a host program. -/
inductive RunResult where
  /-- Every act was performed; the data of the READs (not of EXPECT or WAIT), in order. -/
  | ran (s : State) (reads : List Word)
  /-- An EXPECT read another value. -/
  | unexpected (s : State) (off : Nat)
  /-- A transaction was answered with BUSERR: the host's own fault (20 R108). -/
  | busErr (s : State) (off : Nat)
  /-- A WAIT ran out of fuel (30 R160). -/
  | outOfFuel (s : State)
  /-- The machine stopped. -/
  | stopped
deriving Repr

/-- The transaction at an offset from BASE. -/
def transactionAt (s : State) (a : Access) (off : Nat) (sz : Size) : Transaction where
  access := a
  addr := s.params.base + off
  size := sz

/-- The state with one event put at the head of the inbox, for the next step to take. -/
def withEvent (s : State) (e : HostEvent) : State := withInbox s (e :: s.inbox)

/-- WAIT: read STATUS until BUSY is 0 (30 R160). After a poll that saw BUSY = 1 the executor gives the
engine its step, which weak fairness grants it sometime (40 R204, log 18). -/
def runWait : (fuel : Nat) → State → RunResult
  | 0, s => .outOfFuel s
  | fuel + 1, s =>
    match step (withEvent s (.bus (transactionAt s .read 0x00C .four))) with
    | .next s1 =>
      match s1.response with
      | some (.okRead d) =>
        if d.getLsbD 0 then
          match step (withEvent s1 .engine) with
          | .next s2 => runWait fuel s2
          | _ => .stopped
        else .ran s1 []
      | _ => .busErr s1 0x00C
    | _ => .stopped

/-- One act. `fuel` bounds the polls of a WAIT. -/
def runAct (fuel : Nat) (s : State) : HostAct → RunResult
  | .access a off sz =>
    match step (withEvent s (.bus (transactionAt s a off sz))) with
    | .next s1 =>
      match s1.response with
      | some (.okRead d) => .ran s1 [d]
      | some .okWrite => .ran s1 []
      | _ => .busErr s1 off
    | _ => .stopped
  | .expect off sz v =>
    match step (withEvent s (.bus (transactionAt s .read off sz))) with
    | .next s1 =>
      match s1.response with
      | some (.okRead d) => if d = v then .ran s1 [] else .unexpected s1 off
      | _ => .busErr s1 off
    | _ => .stopped
  | .waitIdle => runWait fuel s

/-- The acts one after another, up to the first that does not end well. -/
def runActs (fuel : Nat) : List HostAct → State → RunResult
  | [], s => .ran s []
  | a :: as, s =>
    match runAct fuel s a with
    | .ran s1 r1 =>
      match runActs fuel as s1 with
      | .ran s2 r2 => .ran s2 (r1 ++ r2)
      | other => other
    | other => other

/-- A host program from a state (30 R158 to R160). -/
def runProgram (fuel : Nat) (p : List HostLine) (s : State) : RunResult :=
  runActs fuel (expandProgram p) s

end Sys2Proof.Machine
end

