-- ==== Sys2Proof/Safety.lean ====
section
/-! DEFINITION. What counts as a sound state of the block, in the terms the statements use: the named
properties of LOG10_FN (41 R256), the invariants the rules promise, and what "no state of the block
changes" means (20 R108). -/

set_option autoImplicit false

namespace Sys2Proof

/-! ### The assumable properties of LOG10_FN (41 R256), of any function it may be -/

/-- A positive finite binary64 value. -/
abbrev F64.PositiveFinite (x : F64) : Prop :=
  F64.finite x = true ∧ F64.lt (F64.zero false) x = true

/-- (L1) monotone: x <= y implies LOG10_FN(x) <= LOG10_FN(y). -/
def Log10Monotone (log : F64 → F64) : Prop :=
  ∀ x y : F64, F64.PositiveFinite x → F64.PositiveFinite y → F64.le x y = true →
    F64.le (log x) (log y) = true

/-- (L2) LOG10_FN(1.0) = +0.0. -/
def Log10One (log : F64 → F64) : Prop := log (F64.ofNat 1) = F64.zero false

/-- `y` is `fl` of the real number `r` units of 2^-1074: nearest, ties to even, a zero with the sign of
`r` (00 R14). -/
def F64.IsRounded (r : ℝ) (y : F64) : Prop :=
  F64.finite y = true ∧
  (∀ z : F64, F64.finite z = true → |(F64.units y : ℝ) - r| ≤ |(F64.units z : ℝ) - r|) ∧
  (∀ z : F64, F64.finite z = true → F64.units z ≠ F64.units y →
    |(F64.units y : ℝ) - r| = |(F64.units z : ℝ) - r| → y.getLsbD 0 = false) ∧
  (F64.units y = 0 → (F64.neg y = true ↔ r < 0))

/-- (L3) correctly rounded: LOG10_FN(x) = fl(log10(x)). -/
def Log10Rounded (log : F64 → F64) : Prop :=
  ∀ x : F64, F64.PositiveFinite x →
    F64.IsRounded (2 ^ 1074 * Real.logb 10 ((F64.units x : ℝ) / 2 ^ 1074)) (log x)

end Sys2Proof

namespace Sys2Proof.Machine

/-! ### What a transaction leaves alone -/

/-- `t` is `s` but for the model's own fields of the host's side: no state of the block differs. -/
def SameBlock (s t : State) : Prop :=
  t = { s with inbox := t.inbox, response := t.response, draws := t.draws }

/-! ### How a command ends -/

/-- The completion of 40 R204 and nothing else: BUSY <- 0, DONE <- 1. -/
def finished (s : State) : State := { s with busy := false, done := true }

/-- The error commit of 40 R206 and nothing else: ERR, ERRCODE and the completion. -/
def failedWith (s : State) (c : ErrorCode) : State :=
  { s with busy := false, done := true, err := true,
           errOp := s.curCmd.extractLsb' 0 8, errCode := c }

/-! ### The frame, as spec/43 writes it down: sums over bytes of the buffers -/

/-- sq(o) of 43 R353: the squared difference of the samples at buffer offset o. -/
def sqAt (s : State) (o : Nat) : Int :=
  (((byteAt s (0x01000000 + o)).toNat : Int) - (byteAt s (0x02000000 + o)).toNat) ^ 2

/-- sy[b] of 43 R353, with the offsets of 43 R352. -/
def lumaSsd (s : State) (b : Nat) : Int :=
  ∑ r ∈ Finset.range 16, ∑ c ∈ Finset.range 16,
    sqAt s ((b / s.nbw.toNat * 16 + r) * s.actW.toNat + b % s.nbw.toNat * 16 + c)

/-- su[b] of 43 R353. -/
def chromaUSsd (s : State) (b : Nat) : Int :=
  ∑ r ∈ Finset.range 8, ∑ c ∈ Finset.range 8,
    sqAt s (s.actW.toNat * s.actH.toNat +
      (b / s.nbw.toNat * 8 + r) * (s.actW.toNat / 2) + b % s.nbw.toNat * 8 + c)

/-- sv[b] of 43 R353. -/
def chromaVSsd (s : State) (b : Nat) : Int :=
  ∑ r ∈ Finset.range 8, ∑ c ∈ Finset.range 8,
    sqAt s (s.actW.toNat * s.actH.toNat + s.actW.toNat / 2 * (s.actH.toNat / 2) +
      (b / s.nbw.toNat * 8 + r) * (s.actW.toNat / 2) + b % s.nbw.toNat * 8 + c)

/-- The blocks of the frame (43 R351). -/
def blocks (s : State) : Finset Nat := Finset.range (s.nbw.toNat * s.nbh.toNat)

/-- The blocks whose mask byte is nonzero (43 R355). -/
def maskedBlocks (s : State) : Finset Nat :=
  (blocks s).filter (fun b => byteAt s (0x03000000 + b) ≠ 0#8)

/-- When FRAME completes without error (43 R351, R355). -/
structure FrameReady (s : State) : Prop where
  opened : s.seqState = .opened
  fits : s.storeCount.toNat + s.nbw.toNat * s.nbh.toNat ≤ s.params.storeEntries
  partitions : s.roiEn = true → s.epSkip = false →
    (maskedBlocks s).card ≠ 0 ∧ (maskedBlocks s).card ≠ s.nbw.toNat * s.nbh.toNat

/-- `r` holds the frame statistics of a partition of n blocks with the SSDs `d` (43 R361, 41 R257). -/
structure StatsOf (d : SsdStats) (n : Nat) (r : FrameStats) : Prop where
  mseY : r.mseY = msef d.ssdY.toNat (n * 256)
  mseU : r.mseU = msef d.ssdU.toNat (n * 64)
  mseV : r.mseV = msef d.ssdV.toNat (n * 64)
  mseT : r.mseT = msef d.ssdT.toNat (n * 384)
  psnrY : r.psnrY = psnrf r.mseY
  psnrU : r.psnrU = psnrf r.mseU
  psnrV : r.psnrV = psnrf r.mseV
  psnrT : r.psnrT = psnrf r.mseT
  wpsnr : r.wpsnr = wpsnrf r.psnrY r.psnrU r.psnrV

/-- `r` holds the sequence averages of the sums `m` over n frames (44 R400, R402). -/
structure AveragesOf (m : FrameStats) (n : Nat) (r : SeqStats) : Prop where
  amseY : r.amseY = avgf m.mseY n
  amseU : r.amseU = avgf m.mseU n
  amseV : r.amseV = avgf m.mseV n
  amseT : r.amseT = avgf m.mseT n
  spsnrY : r.spsnrY = psnrf r.amseY
  spsnrU : r.spsnrU = psnrf r.amseU
  spsnrV : r.spsnrV = psnrf r.amseV
  spsnrT : r.spsnrT = psnrf r.amseT
  awpsnr : r.awpsnr = avgf m.wpsnr n
  apsnrY : r.apsnrY = avgf m.psnrY n
  apsnrU : r.apsnrU = avgf m.psnrU n
  apsnrV : r.apsnrV = avgf m.psnrV n
  apsnrT : r.apsnrT = avgf m.psnrT n

/-- `q` holds the values `f` of the one frame of a sequence (44 R400's corner case): the same MSEs and the
same PSNRs of them bit for bit, and averages of the PSNRs that are equal as numbers (a -0.0 averages to
+0.0, because a sum starts at +0.0). -/
structure OneFrameAverages (f : FrameStats) (q : SeqStats) : Prop where
  amseY : q.amseY = f.mseY
  amseU : q.amseU = f.mseU
  amseV : q.amseV = f.mseV
  amseT : q.amseT = f.mseT
  spsnrY : q.spsnrY = f.psnrY
  spsnrU : q.spsnrU = f.psnrU
  spsnrV : q.spsnrV = f.psnrV
  spsnrT : q.spsnrT = f.psnrT
  awpsnr : F64.eq q.awpsnr f.wpsnr = true
  apsnrY : F64.eq q.apsnrY f.psnrY = true
  apsnrU : F64.eq q.apsnrU f.psnrU = true
  apsnrV : F64.eq q.apsnrV f.psnrV = true
  apsnrT : F64.eq q.apsnrT f.psnrT = true

/-! ### What a host reads in the result window -/

/-- The 64-bit value a host reads as the two words at off(s, p, k) and 4 above it (10 R50, R56). -/
def resultRead (s : State) (sc p k : Nat) : BitVec 64 :=
  readWindow s (0x400 + 8 * ((sc * 4 + p) * 16 + k) + 4) ++
    readWindow s (0x400 + 8 * ((sc * 4 + p) * 16 + k))

/-- The sixteen stats a host reads for a scope and a partition, k = 0 first. -/
def resultRow (s : State) (sc p : Nat) : List (BitVec 64) :=
  (List.range 16).map (resultRead s sc p)

/-- The sixteen stats of the FRAME and SUM scopes, in the order of 10 R51 and R52. -/
def frameRow (r : FrameStats) : List (BitVec 64) :=
  [r.mseY, r.mseU, r.mseV, r.mseT, r.psnrY, r.psnrU, r.psnrV, r.psnrT, r.wpsnr,
    0#64, 0#64, 0#64, 0#64, 0#64, 0#64, 0#64]

/-- The sixteen stats of the SEQ scope, in the order of 10 R53. -/
def seqRow (r : SeqStats) : List (BitVec 64) :=
  [r.amseY, r.amseU, r.amseV, r.amseT, r.spsnrY, r.spsnrU, r.spsnrV, r.spsnrT, r.awpsnr,
    r.apsnrY, r.apsnrU, r.apsnrV, r.apsnrT, 0#64, 0#64, 0#64]

/-- The sixteen stats of the SSD scope, in the order of 10 R54. -/
def ssdRow (r : SsdStats) : List (BitVec 64) :=
  [r.ssdY, r.ssdU, r.ssdV, r.ssdT, 0#64, 0#64, 0#64, 0#64, 0#64, 0#64, 0#64, 0#64, 0#64, 0#64, 0#64, 0#64]

/-- Sixteen stats that read 0: partition 3 (10 R50). -/
def zeroRow : List (BitVec 64) := List.replicate 16 0#64

/-! ### Invariants -/

/-- The active configuration is one CONFIG accepts (42 R300): nonzero multiples of 16 that fit. -/
structure ConfigLegal (s : State) : Prop where
  width_pos : 0 < s.actW.toNat
  height_pos : 0 < s.actH.toNat
  width_aligned : s.actW.toNat % 16 = 0
  height_aligned : s.actH.toNat % 16 = 0
  columns : s.nbw.toNat = s.actW.toNat / 16
  rows : s.nbh.toNat = s.actH.toNat / 16
  frame_fits : s.actW.toNat * s.actH.toNat * 3 / 2 ≤ s.params.frameBufBytes
  blocks_fit : frameBlockCount s ≤ s.params.storeEntries
  mask_fits : s.roiEn = true → frameBlockCount s ≤ s.params.maskBufBytes

/-- What the rules promise of every state a run reaches. -/
structure Inv (s : State) : Prop where
  /-- The parameters are legal (00 R9). -/
  params_legal : s.params.Legal
  /-- The memory is canonical. -/
  memory_canonical : Memory.wf s.mem = true
  /-- A valid configuration is a legal one (42 R300). -/
  config_legal : s.cfgValid = true → ConfigLegal s
  /-- Only a configured block leaves IDLE; OPEN implies ACT_CFG.VALID = 1 (43 R351). -/
  sequence_configured : s.seqState ≠ .idle → s.cfgValid = true
  /-- STORE_COUNT never passes STORE_ENTRIES (43 R351). -/
  store_fits : s.storeCount.toNat ≤ s.params.storeEntries
  /-- Every accumulated frame stored at least one block. -/
  frames_stored : s.frames.toNat ≤ s.storeCount.toNat
  /-- CLOSED implies FRAMES >= 1 (45 R430). -/
  closed_has_frames : s.seqState = .closed → 1 ≤ s.frames.toNat
  roi_frames_le : s.roiFrames.toNat ≤ s.frames.toNat
  nroi_frames_le : s.nroiFrames.toNat ≤ s.frames.toNat
  /-- ERRCODE.CODE is NONE exactly when ERR = 0 (10 R37). -/
  error_recorded : s.err = true ↔ s.errCode ≠ .noError
  no_error_no_op : s.err = false → s.errOp = 0#8
  /-- DONE is clear while a command is in flight (10 R35). -/
  busy_not_done : s.busy = true → s.done = false
  /-- Under ERR = 1 only NOP, CLEAR_ERR or SOFT_RESET is in flight (40 R202). -/
  busy_under_error : s.busy = true → s.err = true → acceptedUnderErr s.curCmd = true
  /-- A map is valid only in the closed sequence it was made from (70 R613). -/
  map_closed : s.valid.mapValid = true → s.seqState = .closed
  /-- MAP_COUNT is the map's length while it is valid, and 0 else (10 R49, 45 R437). -/
  map_count : s.mapCount = if s.valid.mapValid then s.storeCount else 0#32
  /-- SEQ results are defined exactly in CLOSED (44 R400). -/
  seq_valid : s.valid.seqAll = true ↔ s.seqState = .closed
  /-- FRAME results are defined once a frame has been accumulated (43 R361). -/
  frame_valid : s.valid.frameAll = true ↔ 1 ≤ s.frames.toNat
  /-- An invalid partition's entries read +0.0 (10 R55). -/
  frame_roi_zero : s.valid.frameRoi = false → s.resFrame.roi = {}
  frame_nroi_zero : s.valid.frameNroi = false → s.resFrame.nroi = {}
  seq_roi_zero : s.valid.seqRoi = false → s.resSeq.roi = {}
  seq_nroi_zero : s.valid.seqNroi = false → s.resSeq.nroi = {}

/-- With EP_SKIP = 0 and ROI_EN = 1 every accumulated frame validated both partitions (44 R401). -/
def CountersAgree (s : State) : Prop :=
  s.seqState = .opened → s.roiEn = true → s.epSkip = false →
    s.roiFrames = s.frames ∧ s.nroiFrames = s.frames

/-- Bits [31:24] of every valid SSD_STORE entry are 0 (10 R60). -/
def StoreTopClear (s : State) : Prop :=
  ∀ i, i < s.storeCount.toNat → memRead s .store (4 * i) 4 < 2 ^ 24

end Sys2Proof.Machine
end

