-- ==== Sys2Proof/Certificates/Slice0/Obligations.lean ====
section
/-! DEFINITION. What the provers are asked to prove of the model. -/

set_option autoImplicit false

open Sys2Proof Sys2Proof.Machine

/-! ### Encoding (spec/30) -/

/-- 30 R152 to R154: a word decodes to a command exactly when it is that command's word. So decode of
encode is the identity, no other word decodes to a command, and no bit of a word is dropped. -/
def Obligations.DecodeIsInverseOfEncode : Prop :=
  ∀ (w : Word) (i : Instr), decode w = .ok i ↔ w = encode i

/-- 30 R154: at most one row of the opcode map matches a word; decode answers the row that does; without
one the word is ILLEGAL; and the ILLEGAL words are those the rule lists: RSVD not 0, an opcode
0x06-0x0D or 0x10-0xFF, or a flag bit set on an opcode other than CONFIG's and MAP's. -/
def Obligations.DecodeSelectsTheOneMatchingRow : Prop :=
  ∀ w : Word,
    (opcodeRows.filter (fun r => w &&& r.mask == r.pattern)).length ≤ 1 ∧
    (∀ i, decode w = .ok i ↔ ∃ r ∈ opcodeRows, w &&& r.mask = r.pattern ∧ r.build w = i) ∧
    ((∃ e, decode w = .error e) ↔
      (w.extractLsb' 10 22 ≠ 0#22 ∨
       (6 ≤ w.toNat % 256 ∧ w.toNat % 256 ≤ 13) ∨ 16 ≤ w.toNat % 256 ∨
       (w.extractLsb' 8 2 ≠ 0#2 ∧ w.toNat % 256 ≠ 1 ∧ w.toNat % 256 ≠ 5)))

/-- 30 R153, R157, spec/95 V-P2 to V-P6: a few words, written out. -/
def Obligations.KnownWordsDecode : Prop :=
  decode 0x00000000#32 = .ok .nop ∧
  decode 0x00000101#32 = .ok (.config true false) ∧
  decode 0x00000201#32 = .ok (.config false true) ∧
  decode 0x00000002#32 = .ok .seqStart ∧
  decode 0x00000003#32 = .ok .frame ∧
  decode 0x00000004#32 = .ok .seqFinish ∧
  decode 0x00000105#32 = .ok (.map true false) ∧
  decode 0x00000305#32 = .ok (.map true true) ∧
  decode 0x0000000E#32 = .ok .clearErr ∧
  decode 0x0000000F#32 = .ok .softReset ∧
  decode 0x00000405#32 = .error .reservedBits ∧
  decode 0x00000006#32 = .error (.reservedOpcode 0x06#8) ∧
  decode 0x00000100#32 = .error (.flagNotAdmitted 0x00#8)

/-- 30 R159: the words of the eight mnemonics without flags are those of R152; the word of a well-formed
spelling is its mnemonic's word with the named flag bits set, in whatever order they are written;
CONFIG.ROI is 0x101, CONFIG.ROI.SKIP 0x301, MAP.MINX.MAXX 0x305. -/
def Obligations.SpellingSetsTheNamedFlags : Prop :=
  Spelling.enc ⟨.nop, []⟩ = 0x00000000#32 ∧ Spelling.enc ⟨.config, []⟩ = 0x00000001#32 ∧
  Spelling.enc ⟨.seqStart, []⟩ = 0x00000002#32 ∧ Spelling.enc ⟨.frame, []⟩ = 0x00000003#32 ∧
  Spelling.enc ⟨.seqFinish, []⟩ = 0x00000004#32 ∧ Spelling.enc ⟨.map, []⟩ = 0x00000005#32 ∧
  Spelling.enc ⟨.clearErr, []⟩ = 0x0000000E#32 ∧ Spelling.enc ⟨.softReset, []⟩ = 0x0000000F#32 ∧
  (∀ m : Spelling, m.wellFormed = true →
    m.enc = Spelling.enc ⟨m.name, []⟩ |||
      (if FlagName.roi ∈ m.flags ∨ FlagName.minx ∈ m.flags then 0x100#32 else 0#32) |||
      (if FlagName.skip ∈ m.flags ∨ FlagName.maxx ∈ m.flags then 0x200#32 else 0#32)) ∧
  (∀ m : Spelling, m.wellFormed = true ↔
    m.flags.Nodup ∧
    (FlagName.roi ∈ m.flags → m.name = .config) ∧ (FlagName.skip ∈ m.flags → m.name = .config) ∧
    (FlagName.minx ∈ m.flags → m.name = .map) ∧ (FlagName.maxx ∈ m.flags → m.name = .map)) ∧
  (∀ (n : CommandName) (fs gs : List FlagName), fs.Perm gs → Spelling.enc ⟨n, fs⟩ = Spelling.enc ⟨n, gs⟩) ∧
  Spelling.enc ⟨.config, [.roi]⟩ = 0x00000101#32 ∧
  Spelling.enc ⟨.config, [.roi, .skip]⟩ = 0x00000301#32 ∧
  Spelling.enc ⟨.map, [.minx, .maxx]⟩ = 0x00000305#32

/-! ### The step and the command protocol (spec/40) -/

/-- 40 R204: with a command in flight and the engine to move (nothing pending, or its step at the head
of the inbox, which it uses up; the inbox is the model's, log 1), a step runs exec of the decoded
command, and nothing more. -/
def Obligations.StepRunsTheDecodedCommand : Prop :=
  ∀ (s : State) (i : Instr), s.busy = true → decode s.curCmd = .ok i → i.wellFormed = true →
    (s.inbox = [] → step s = exec i s) ∧
    (∀ q, s.inbox = .engine :: q → step s = exec i { s with inbox := q })

/-- 30 R157: an ILLEGAL word written while BUSY = 0 and ERR = 0 is accepted, and the engine's step
completes it with ILLEGAL_CMD and no other effect; written while ERR = 1 it is rejected. -/
def Obligations.IllegalWordRaisesIllegalCmd : Prop :=
  ∀ (s : State) (w : Word) (e : Illegal), decode w = .error e → s.busy = false →
    (s.err = false →
      issue s w = { s with curCmd := w, busy := true, done := false } ∧
      engineStep (issue s w) = .next
        { s with curCmd := w, busy := false, done := true, err := true,
                 errOp := w.extractLsb' 0 8, errCode := .illegalCmd }) ∧
    (s.err = true → issue s w = { s with rej := true })

/-- 40 R200: a WRITE of a word to CMD does exactly one of three things: it sets CMD_OVR, or REJ, or
accepts the word. The transaction stands at the head of the inbox and is used up: the inbox is the model's
(log 1, DESIGN CHOICE). The response is not the rule's subject. -/
def Obligations.CmdWriteHasThreeOutcomes : Prop :=
  ∀ (s : State) (w : Word) (q : List HostEvent),
    s.inbox = .bus ⟨.write w, s.params.base + 0x008, .four⟩ :: q →
    ∃ t, step s = .next t ∧
      t = (if s.busy = true then
        { s with cmdOvr := true, inbox := q, response := t.response }
       else if s.err = true ∧ w ≠ 0x00000000#32 ∧ w ≠ 0x0000000E#32 ∧ w ≠ 0x0000000F#32 then
        { s with rej := true, inbox := q, response := t.response }
       else
        { s with curCmd := w, busy := true, done := false, inbox := q, response := t.response })

/-- 40 R204's weak fairness, as the model renders it (log 16): whatever the host still sends, once its
transactions have been performed and one more step taken, no command is in flight. -/
def Obligations.CommandInFlightEventuallyCompletes : Prop :=
  ∀ s : State,
    (∀ x, HostEvent.bus x ∈ s.inbox → s.params.base ≤ x.addr ∧ x.addr < s.params.base + 2 ^ 27) →
    ∃ t, Sys2Proof.core.run (s.inbox.length + 1) s = .next t ∧ t.busy = false ∧ t.inbox = []

/-- 40 R207: a command that raises an error changes only ERR, ERRCODE, DONE and BUSY and the writes its
rule lists as surviving: SEQ_STATE, of a FRAME with a fatal error; the effective bounds, MAP_COUNT and
MAP_VALID, of a MAP with a bound error. -/
def Obligations.ErrorsArePrecise : Prop :=
  ∀ (i : Instr) (s t : State), exec i s = .next t → s.err = false → t.err = true →
    t = { failedWith s t.errCode with
          seqState := t.seqState, mapMinEff := t.mapMinEff, mapMaxEff := t.mapMaxEff,
          mapCount := t.mapCount, valid := { s.valid with mapValid := t.valid.mapValid } } ∧
    (t.seqState ≠ s.seqState →
      i = .frame ∧ t.seqState = .aborted ∧
      (t.errCode = .storeFull ∨ t.errCode = .emptyPartitionRoi ∨ t.errCode = .emptyPartitionNroi)) ∧
    ((t.mapMinEff ≠ s.mapMinEff ∨ t.mapMaxEff ≠ s.mapMaxEff ∨ t.mapCount ≠ s.mapCount ∨
        t.valid.mapValid ≠ s.valid.mapValid) →
      (∃ n x, i = .map n x) ∧ t.mapCount = 0#32 ∧ t.valid.mapValid = false ∧
      (t.errCode = .mapInverted ∨ t.errCode = .mapDegenerate ∨ t.errCode = .mapBoundInvalid))

/-- 10 R63: which commands move SEQ_STATE, and where to. -/
def Obligations.OnlyListedCommandsMoveSeqState : Prop :=
  ∀ (i : Instr) (s t : State), exec i s = .next t →
    (t.seqState = s.seqState ∨
     (i = .seqStart ∧ t.seqState = .opened) ∨
     (i = .seqFinish ∧ s.seqState = .opened ∧ t.seqState = .closed) ∨
     (i = .frame ∧ s.seqState = .opened ∧ t.seqState = .aborted ∧ t.err = true) ∨
     (i = .softReset ∧ t.seqState = .idle)) ∧
    (i = .seqStart → s.err = false → t.err = false → t.seqState = .opened) ∧
    (i = .seqFinish → s.err = false → t.err = false → s.seqState = .opened ∧ t.seqState = .closed) ∧
    (i = .softReset → t.seqState = .idle)

/-! ### The system commands -/

/-- 40 R210: NOP does nothing but complete, is accepted even while ERR = 1, and a word with its opcode
and any other bit set is ILLEGAL. -/
def Obligations.NopOnlyCompletes : Prop :=
  (∀ s : State, exec .nop s = .next { s with busy := false, done := true }) ∧
  (∀ s : State, s.busy = false →
    issue s 0x00000000#32 = { s with curCmd := 0x00000000#32, busy := true, done := false }) ∧
  decode 0x00000000#32 = .ok .nop ∧
  (∀ w : Word, w.extractLsb' 0 8 = 0x00#8 → w ≠ 0x00000000#32 → ∃ e, decode w = .error e) ∧
  (∀ p : Params, ∃ t, exec .nop (State.powerOn p) = .next t ∧ statusWord t = 0x00000002#32)

/-- 40 R211: CLEAR_ERR clears ERR, ERRCODE and the sticky bits, completes, and leaves everything else,
SEQ_STATE among it. -/
def Obligations.ClearErrClearsTheError : Prop :=
  decode 0x0000000E#32 = .ok .clearErr ∧
  ∀ s : State, ∃ t, exec .clearErr s = .next t ∧
    t = { s with err := false, errOp := 0#8, errCode := .noError,
                 rej := false, cmdOvr := false, wrDrop := false, busy := false, done := true } ∧
    readReg t .errcode = 0x00000000#32 ∧ t.seqState = s.seqState

/-- 40 R212: SOFT_RESET gives every register, field and result entry its reset value and then completes:
every offset of the register window reads as after reset, but STATUS reads DONE. The buffers are kept,
SSD_STORE and MAP_BUF reads become unspecified (20 R114), and irq is 0. It is accepted under ERR too. The
model's own choice in the next state: CUR_CMD is 0 (log 10, DEDUCED), and the model's fields resets, draws,
inbox and response are kept (log 14, DEDUCED). -/
def Obligations.SoftResetResetsRegistersKeepsBuffers : Prop :=
  decode 0x0000000F#32 = .ok .softReset ∧
  (∀ s : State, s.busy = false →
    issue s 0x0000000F#32 = { s with curCmd := 0x0000000F#32, busy := true, done := false }) ∧
  ∀ s : State, ∃ t, exec .softReset s = .next t ∧
    t = { State.powerOn s.params with
          done := true, mem := s.mem, resets := s.resets, draws := s.draws, inbox := s.inbox,
          response := s.response } ∧
    (∀ off, readWindow t off =
      if off = 0x00C then 0x00000002#32 else readWindow (State.powerOn s.params) off) ∧
    (∀ a, byteAt t a = byteAt s a) ∧
    (∀ b, byteSpecified t .store b = false ∧ byteSpecified t .map b = false) ∧
    irq t = false

/-! ### CONFIG and SEQ_START (spec/42) -/

/-- 42 R300: CONFIG on legal dimensions latches them and the flags, and completes; nothing else changes. -/
def Obligations.ConfigLatchesLegalDimensions : Prop :=
  ∀ (s : State) (roi skip : Bool),
    s.seqState ≠ .opened → 0 < s.cfgWidth.toNat → 0 < s.cfgHeight.toNat →
    s.cfgWidth.toNat % 16 = 0 → s.cfgHeight.toNat % 16 = 0 →
    s.cfgWidth.toNat * s.cfgHeight.toNat * 3 / 2 ≤ s.params.frameBufBytes →
    s.cfgWidth.toNat / 16 * (s.cfgHeight.toNat / 16) ≤ s.params.storeEntries →
    (roi = true → s.cfgWidth.toNat / 16 * (s.cfgHeight.toNat / 16) ≤ s.params.maskBufBytes) →
    ∃ t, exec (.config roi skip) s = .next t ∧
      t = { s with actW := s.cfgWidth, actH := s.cfgHeight, nbw := t.nbw, nbh := t.nbh,
                   cfgValid := true, roiEn := roi, epSkip := skip, busy := false, done := true } ∧
      t.nbw.toNat = s.cfgWidth.toNat / 16 ∧ t.nbh.toNat = s.cfgHeight.toNat / 16 ∧
      ConfigLegal t

/-- 42 R300, 60 R510: CONFIG's errors, in their order; a failed CONFIG leaves the configuration. -/
def Obligations.ConfigErrorsInOrder : Prop :=
  ∀ (s : State) (roi skip : Bool),
    (s.seqState = .opened → exec (.config roi skip) s = .next (failedWith s .seqState)) ∧
    (s.seqState ≠ .opened →
      ((s.cfgWidth.toNat = 0 ∨ s.cfgHeight.toNat = 0) →
        exec (.config roi skip) s = .next (failedWith s .cfgDimZero)) ∧
      (0 < s.cfgWidth.toNat → 0 < s.cfgHeight.toNat →
        ((s.cfgWidth.toNat % 16 ≠ 0 ∨ s.cfgHeight.toNat % 16 ≠ 0) →
          exec (.config roi skip) s = .next (failedWith s .cfgDimAlign)) ∧
        (s.cfgWidth.toNat % 16 = 0 → s.cfgHeight.toNat % 16 = 0 →
          (s.params.frameBufBytes < s.cfgWidth.toNat * s.cfgHeight.toNat * 3 / 2 ∨
           s.params.storeEntries < s.cfgWidth.toNat / 16 * (s.cfgHeight.toNat / 16) ∨
           (roi = true ∧ s.params.maskBufBytes < s.cfgWidth.toNat / 16 * (s.cfgHeight.toNat / 16))) →
          exec (.config roi skip) s = .next (failedWith s .cfgDimRange))))

/-- 42 R310: SEQ_START on a valid configuration clears the sequence's registers and results, opens the
sequence and completes; the bounds, the configuration and every buffer are unchanged. Without a valid
configuration it raises NOT_CONFIGURED. -/
def Obligations.SeqStartOpensAnEmptySequence : Prop :=
  decode 0x00000002#32 = .ok .seqStart ∧
  ∀ s : State,
    (s.cfgValid = true →
      exec .seqStart s = .next
        { s with frames := 0#32, roiFrames := 0#32, nroiFrames := 0#32, storeCount := 0#32,
                 frameBlocks := 0#32, frameRoiBlocks := 0#32,
                 valid := ⟨false, false, false, false, false, false, false⟩,
                 resFrame := ⟨{}, {}, {}⟩, resSum := ⟨{}, {}, {}⟩, resSeq := ⟨{}, {}, {}⟩,
                 resSsd := ⟨{}, {}, {}⟩,
                 mapMinEff := 0#64, mapMaxEff := 0#64, mapCount := 0#32,
                 seqState := .opened, busy := false, done := true }) ∧
    (s.cfgValid = false → exec .seqStart s = .next (failedWith s .notConfigured))

/-! ### FRAME (spec/43) -/

/-- 43 R351, R355, R365: FRAME's errors, in their order; the fatal ones abort the sequence. -/
def Obligations.FrameErrorsInOrder : Prop :=
  ∀ s : State,
    (s.seqState ≠ .opened → exec .frame s = .next (failedWith s .seqState)) ∧
    (s.seqState = .opened →
      (s.params.storeEntries < s.storeCount.toNat + s.nbw.toNat * s.nbh.toNat →
        exec .frame s = .next { failedWith s .storeFull with seqState := .aborted }) ∧
      (s.storeCount.toNat + s.nbw.toNat * s.nbh.toNat ≤ s.params.storeEntries →
        s.roiEn = true → s.epSkip = false →
        ((maskedBlocks s).card = 0 →
          exec .frame s = .next { failedWith s .emptyPartitionRoi with seqState := .aborted }) ∧
        ((maskedBlocks s).card ≠ 0 → (maskedBlocks s).card = s.nbw.toNat * s.nbh.toNat →
          exec .frame s = .next { failedWith s .emptyPartitionNroi with seqState := .aborted })))

/-- 43 R360, R361, R363, R364: when FRAME completes, the counters and the VALID bits; and the frame: it
changes nothing but these, the FRAME, SUM and SSD scopes, and the NB entries of SSD_STORE from STORE_COUNT
up; every other byte of every buffer reads as before. -/
def Obligations.FrameCountsAndLeavesTheRest : Prop :=
  ∀ s : State, FrameReady s → ∃ t, exec .frame s = .next t ∧
    t = { s with
          busy := false, done := true,
          frames := s.frames + 1#32,
          roiFrames := if s.roiEn = true ∧ 0 < (maskedBlocks s).card then s.roiFrames + 1#32
            else s.roiFrames,
          nroiFrames := if s.roiEn = true ∧ (maskedBlocks s).card < s.nbw.toNat * s.nbh.toNat then
            s.nroiFrames + 1#32 else s.nroiFrames,
          storeCount := s.storeCount + BitVec.ofNat 32 (s.nbw.toNat * s.nbh.toNat),
          frameBlocks := BitVec.ofNat 32 (s.nbw.toNat * s.nbh.toNat),
          frameRoiBlocks := if s.roiEn = true then BitVec.ofNat 32 (maskedBlocks s).card else 0#32,
          valid := { s.valid with
            frameAll := true,
            frameRoi := s.roiEn && decide (0 < (maskedBlocks s).card),
            frameNroi := s.roiEn && decide ((maskedBlocks s).card < s.nbw.toNat * s.nbh.toNat) },
          resFrame := t.resFrame, resSum := t.resSum, resSsd := t.resSsd, mem := t.mem } ∧
    (∀ a, (a < 0x04000000 + 4 * s.storeCount.toNat ∨
        0x04000000 + 4 * (s.storeCount.toNat + s.nbw.toNat * s.nbh.toNat) ≤ a) →
      byteAt t a = byteAt s a)

/-- 43 R352, R353, R357, R359: the SSD scope holds the exact sums, over the blocks of the partition, of
the squared sample differences at the offsets of R352; the T entry is the sum of the three planes'; ROI
and NROI are 0 when ROI_EN = 0. -/
def Obligations.FrameSumsTheSquaredDifferences : Prop :=
  ∀ s : State, FrameReady s → ∃ t, exec .frame s = .next t ∧
    (t.resSsd.all.ssdY.toNat : Int) = ∑ b ∈ blocks s, lumaSsd s b ∧
    (t.resSsd.all.ssdU.toNat : Int) = ∑ b ∈ blocks s, chromaUSsd s b ∧
    (t.resSsd.all.ssdV.toNat : Int) = ∑ b ∈ blocks s, chromaVSsd s b ∧
    t.resSsd.all.ssdT.toNat =
      t.resSsd.all.ssdY.toNat + t.resSsd.all.ssdU.toNat + t.resSsd.all.ssdV.toNat ∧
    (s.roiEn = true →
      (t.resSsd.roi.ssdY.toNat : Int) = ∑ b ∈ maskedBlocks s, lumaSsd s b ∧
      (t.resSsd.roi.ssdU.toNat : Int) = ∑ b ∈ maskedBlocks s, chromaUSsd s b ∧
      (t.resSsd.roi.ssdV.toNat : Int) = ∑ b ∈ maskedBlocks s, chromaVSsd s b ∧
      t.resSsd.roi.ssdT.toNat =
        t.resSsd.roi.ssdY.toNat + t.resSsd.roi.ssdU.toNat + t.resSsd.roi.ssdV.toNat) ∧
    (s.roiEn = false → t.resSsd.roi = ⟨0#64, 0#64, 0#64, 0#64⟩ ∧ t.resSsd.nroi = ⟨0#64, 0#64, 0#64, 0#64⟩)

/-- 43 R358: the ROI and non-ROI totals add up to the whole, for every plane and for the total
pseudo-plane, which is the sum of the three: no double counting, no omission. -/
def Obligations.FramePartitionsAddUp : Prop :=
  ∀ s : State, FrameReady s → s.roiEn = true → ∃ t, exec .frame s = .next t ∧
    t.resSsd.roi.ssdY.toNat + t.resSsd.nroi.ssdY.toNat = t.resSsd.all.ssdY.toNat ∧
    t.resSsd.roi.ssdU.toNat + t.resSsd.nroi.ssdU.toNat = t.resSsd.all.ssdU.toNat ∧
    t.resSsd.roi.ssdV.toNat + t.resSsd.nroi.ssdV.toNat = t.resSsd.all.ssdV.toNat ∧
    t.resSsd.roi.ssdT.toNat + t.resSsd.nroi.ssdT.toNat = t.resSsd.all.ssdT.toNat ∧
    t.resSsd.all.ssdT.toNat =
      t.resSsd.all.ssdY.toNat + t.resSsd.all.ssdU.toNat + t.resSsd.all.ssdV.toNat ∧
    t.resSsd.roi.ssdT.toNat =
      t.resSsd.roi.ssdY.toNat + t.resSsd.roi.ssdU.toNat + t.resSsd.roi.ssdV.toNat ∧
    t.resSsd.nroi.ssdT.toNat =
      t.resSsd.nroi.ssdY.toNat + t.resSsd.nroi.ssdU.toNat + t.resSsd.nroi.ssdV.toNat

/-- 43 R352, R353, 41 R257: with a legal configuration the blocks tile the planes: the ALL totals are the
squared differences of all W*H luma samples and all (W/2)*(H/2) samples of each chroma plane, each
counted once. -/
def Obligations.FrameBlocksTileThePlanes : Prop :=
  ∀ s : State, FrameReady s → ConfigLegal s → ∃ t, exec .frame s = .next t ∧
    (t.resSsd.all.ssdY.toNat : Int) =
      ∑ o ∈ Finset.range (s.actW.toNat * s.actH.toNat), sqAt s o ∧
    (t.resSsd.all.ssdU.toNat : Int) =
      ∑ o ∈ Finset.range (s.actW.toNat / 2 * (s.actH.toNat / 2)),
        sqAt s (s.actW.toNat * s.actH.toNat + o) ∧
    (t.resSsd.all.ssdV.toNat : Int) =
      ∑ o ∈ Finset.range (s.actW.toNat / 2 * (s.actH.toNat / 2)),
        sqAt s (s.actW.toNat * s.actH.toNat + s.actW.toNat / 2 * (s.actH.toNat / 2) + o)

/-- 43 R361, 41 R257: the FRAME scope of a valid partition is the MSE, the PSNR and the weighted PSNR of
its SSDs over its sample counts; of an invalid one, +0.0 each. -/
def Obligations.FrameStatisticsFollowTheSsds : Prop :=
  ∀ s : State, FrameReady s → ∃ t, exec .frame s = .next t ∧
    StatsOf t.resSsd.all (s.nbw.toNat * s.nbh.toNat) t.resFrame.all ∧
    (if s.roiEn = true ∧ 0 < (maskedBlocks s).card then
      StatsOf t.resSsd.roi (maskedBlocks s).card t.resFrame.roi
     else t.resFrame.roi = ⟨0#64, 0#64, 0#64, 0#64, 0#64, 0#64, 0#64, 0#64, 0#64⟩) ∧
    (if s.roiEn = true ∧ (maskedBlocks s).card < s.nbw.toNat * s.nbh.toNat then
      StatsOf t.resSsd.nroi (s.nbw.toNat * s.nbh.toNat - (maskedBlocks s).card) t.resFrame.nroi
     else t.resFrame.nroi = ⟨0#64, 0#64, 0#64, 0#64, 0#64, 0#64, 0#64, 0#64, 0#64⟩)

/-- 43 R362: for each valid partition and each k in 0..8 the frame's value is added to the sequence sum
with +f, the sum first; an invalid partition's sums are unchanged. -/
def Obligations.FrameAddsToTheSums : Prop :=
  ∀ s : State, FrameReady s → ∃ t, exec .frame s = .next t ∧
    (∀ k, k ≤ 8 → t.resSum.all.stat k = F64.add (s.resSum.all.stat k) (t.resFrame.all.stat k)) ∧
    (t.valid.frameRoi = true →
      ∀ k, k ≤ 8 → t.resSum.roi.stat k = F64.add (s.resSum.roi.stat k) (t.resFrame.roi.stat k)) ∧
    (t.valid.frameNroi = true →
      ∀ k, k ≤ 8 → t.resSum.nroi.stat k = F64.add (s.resSum.nroi.stat k) (t.resFrame.nroi.stat k)) ∧
    (t.valid.frameRoi = false → t.resSum.roi = s.resSum.roi) ∧
    (t.valid.frameNroi = false → t.resSum.nroi = s.resSum.nroi)

/-- 43 R354: FRAME appends the luma SSD of each block to SSD_STORE, in raster order; every byte outside
the entries it appends is unchanged. -/
def Obligations.FrameAppendsLumaSsds : Prop :=
  ∀ s : State, FrameReady s → ∃ t, exec .frame s = .next t ∧
    (∀ b, b < s.nbw.toNat * s.nbh.toNat →
      (memRead t .store (4 * (s.storeCount.toNat + b)) 4 : Int) = lumaSsd s b) ∧
    (∀ a, (a < 0x04000000 + 4 * s.storeCount.toNat ∨
        0x04000000 + 4 * (s.storeCount.toNat + s.nbw.toNat * s.nbh.toNat) ≤ a) →
      byteAt t a = byteAt s a)

/-- 43 R350, R356, 10 R61: FRAME reads only bytes 0 .. W*H*3/2 - 1 of REF_BUF and TST_BUF and, when
ROI_EN = 1, bytes 0 .. NB - 1 of MASK_BUF: with these bytes equal, two memories give the same outcome in
every field but the memory itself, and, when FRAME completes, the same entries appended to SSD_STORE. -/
def Obligations.FrameReadsOnlyItsInputs : Prop :=
  ∀ (s : State) (m : Memory), ConfigLegal s →
    (∀ o, o < s.actW.toNat * s.actH.toNat * 3 / 2 →
      byteAt { s with mem := m } (0x01000000 + o) = byteAt s (0x01000000 + o) ∧
      byteAt { s with mem := m } (0x02000000 + o) = byteAt s (0x02000000 + o)) →
    (s.roiEn = true → ∀ b, b < s.nbw.toNat * s.nbh.toNat →
      byteAt { s with mem := m } (0x03000000 + b) = byteAt s (0x03000000 + b)) →
    ∃ t t', exec .frame s = .next t ∧ exec .frame { s with mem := m } = .next t' ∧
      t' = { t with mem := t'.mem } ∧
      (FrameReady s → ∀ b, b < s.nbw.toNat * s.nbh.toNat →
        memRead t' .store (4 * (s.storeCount.toNat + b)) 4 =
          memRead t .store (4 * (s.storeCount.toNat + b)) 4)

/-- 43 R350's corner case, spec/95 V-L1.3: identical inputs give SSD 0 in every partition and in every entry
appended to SSD_STORE, and MSE +0.0 and PSNR 100.0, the weighted PSNR included, in every valid partition. -/
def Obligations.IdenticalFramesScoreHundred : Prop :=
  ∀ s : State, FrameReady s → ConfigLegal s →
    (∀ o, o < s.actW.toNat * s.actH.toNat * 3 / 2 →
      byteAt s (0x01000000 + o) = byteAt s (0x02000000 + o)) →
    let hundred : FrameStats :=
      ⟨0#64, 0#64, 0#64, 0#64, 0x4059000000000000#64, 0x4059000000000000#64,
        0x4059000000000000#64, 0x4059000000000000#64, 0x4059000000000000#64⟩
    ∃ t, exec .frame s = .next t ∧
      t.resSsd.all = ⟨0#64, 0#64, 0#64, 0#64⟩ ∧ t.resSsd.roi = ⟨0#64, 0#64, 0#64, 0#64⟩ ∧
      t.resSsd.nroi = ⟨0#64, 0#64, 0#64, 0#64⟩ ∧
      t.valid.frameAll = true ∧ t.resFrame.all = hundred ∧
      (t.valid.frameRoi = true → t.resFrame.roi = hundred) ∧
      (t.valid.frameNroi = true → t.resFrame.nroi = hundred) ∧
      (∀ b, b < s.nbw.toNat * s.nbh.toNat → memRead t .store (4 * (s.storeCount.toNat + b)) 4 = 0)

/-! ### SEQ_FINISH (spec/44) -/

/-- 44 R400, R401, R402: SEQ_FINISH on an open sequence with frames writes the averages of each valid
partition over its own frame counter (+0.0 for an invalid one) and the VALID bits, closes the sequence
and completes; nothing else changes. Its errors come in their order, and nothing survives them. -/
def Obligations.SeqFinishAveragesAndCloses : Prop :=
  ∀ s : State,
    (s.seqState = .opened → s.frames ≠ 0#32 → ∃ t, exec .seqFinish s = .next t ∧
      t = { s with
            busy := false, done := true, seqState := .closed, resSeq := t.resSeq,
            valid := { s.valid with
              seqAll := true,
              seqRoi := s.roiEn && decide (s.roiFrames ≠ 0#32),
              seqNroi := s.roiEn && decide (s.nroiFrames ≠ 0#32) } } ∧
      AveragesOf s.resSum.all s.frames.toNat t.resSeq.all ∧
      (if s.roiEn = true ∧ s.roiFrames ≠ 0#32 then
        AveragesOf s.resSum.roi s.roiFrames.toNat t.resSeq.roi
       else t.resSeq.roi = {}) ∧
      (if s.roiEn = true ∧ s.nroiFrames ≠ 0#32 then
        AveragesOf s.resSum.nroi s.nroiFrames.toNat t.resSeq.nroi
       else t.resSeq.nroi = {})) ∧
    (s.seqState ≠ .opened → exec .seqFinish s = .next (failedWith s .seqState)) ∧
    (s.seqState = .opened → s.frames = 0#32 → exec .seqFinish s = .next (failedWith s .seqEmpty))

/-! ### MAP (spec/45) -/

/-- 45 R430, R432 to R435: MAP on a closed sequence with usable bounds writes byte i of MAP_BUF with
QUANTF of block i's luma PSNR, in the order of SSD_STORE, the effective bounds, MAP_COUNT and MAP_VALID,
and completes; every other byte and everything else is unchanged. -/
def Obligations.MapQuantizesEveryBlock : Prop :=
  ∀ (s : State) (n x : Bool) (ps : List F64) (lo hi : F64),
    s.seqState = .closed → s.storeCount ≠ 0#32 →
    (n = true → F64.finite s.mapMin = true) → (x = true → F64.finite s.mapMax = true) →
    ps = (List.range s.storeCount.toNat).map (fun i => bpsnrf (memRead s .store (4 * i) 4)) →
    lo = (if n = true then s.mapMin else pctf 10 ps) →
    hi = (if x = true then s.mapMax else pctf 90 ps) →
    F64.lt lo hi = true → F64.sub hi lo ≠ 0x7FF0000000000000#64 →
    ∃ t, exec (.map n x) s = .next t ∧
      t = { s with
            busy := false, done := true, mem := t.mem, mapMinEff := lo, mapMaxEff := hi,
            mapCount := s.storeCount, valid := { s.valid with mapValid := true } } ∧
      (∀ i, i < s.storeCount.toNat →
        byteAt t (0x05000000 + i) = quantf (bpsnrf (memRead s .store (4 * i) 4)) lo hi) ∧
      (∀ a, (a < 0x05000000 ∨ 0x05000000 + s.storeCount.toNat ≤ a) → byteAt t a = byteAt s a)

/-- 45 R430: MAP's errors before the bounds are known, in their order; nothing survives them. -/
def Obligations.MapEarlyErrorsInOrder : Prop :=
  ∀ (s : State) (n x : Bool),
    (s.seqState ≠ .closed → exec (.map n x) s = .next (failedWith s .seqState)) ∧
    (s.seqState = .closed →
      (s.storeCount = 0#32 → exec (.map n x) s = .next (failedWith s .mapEmpty)) ∧
      (s.storeCount ≠ 0#32 →
        ((n = true ∧ s.mapMin.extractLsb' 52 11 = 0x7FF#11) ∨
         (x = true ∧ s.mapMax.extractLsb' 52 11 = 0x7FF#11)) →
        exec (.map n x) s = .next (failedWith s .mapBoundInvalid)))

/-- 45 R437, R430: once the bounds are known the effective bounds are written; the bound errors keep
these writes, clear MAP_COUNT and MAP_VALID, and never touch MAP_BUF. No NaN reaches a comparison (41 R262):
both bounds are numbers, so one of the three comparisons decides. -/
def Obligations.MapBoundErrorsKeepTheBounds : Prop :=
  ∀ (s : State) (n x : Bool) (ps : List F64) (lo hi : F64) (s' : State),
    s.seqState = .closed → s.storeCount ≠ 0#32 →
    (n = true → F64.finite s.mapMin = true) → (x = true → F64.finite s.mapMax = true) →
    ps = (List.range s.storeCount.toNat).map (fun i => bpsnrf (memRead s .store (4 * i) 4)) →
    lo = (if n = true then s.mapMin else pctf 10 ps) →
    hi = (if x = true then s.mapMax else pctf 90 ps) →
    s' = { s with mapMinEff := lo, mapMaxEff := hi, mapCount := 0#32,
                  valid := { s.valid with mapValid := false } } →
    (F64.isNaN lo = false ∧ F64.isNaN hi = false ∧
      (F64.lt hi lo = true ∨ F64.eq hi lo = true ∨ F64.lt lo hi = true)) ∧
    (F64.lt hi lo = true → exec (.map n x) s = .next (failedWith s' .mapInverted)) ∧
    (F64.eq hi lo = true → exec (.map n x) s = .next (failedWith s' .mapDegenerate)) ∧
    (F64.lt lo hi = true → F64.sub hi lo = 0x7FF0000000000000#64 →
      exec (.map n x) s = .next (failedWith s' .mapBoundInvalid))

/-- 45 R430's corner case: a single block with automatic bounds always raises MAP_DEGENERATE, with that
block's PSNR as both effective bounds, whatever LOG10_FN is. -/
def Obligations.SingleBlockAutomaticMapIsDegenerate : Prop :=
  ∀ s : State, s.seqState = .closed → s.storeCount = 1#32 →
    exec (.map false false) s = .next
      (failedWith
        { s with mapMinEff := bpsnrf (memRead s .store 0 4), mapMaxEff := bpsnrf (memRead s .store 0 4),
                 mapCount := 0#32, valid := { s.valid with mapValid := false } }
        .mapDegenerate)

/-! ### Numeric functions (spec/41) -/

/-- 41 R253: toF64 is exact below 2^53, which covers the constants 6.0 to 65025.0: the value in units of
2^-1074 is n * 2^1074. -/
def Obligations.IntegerConversionIsExact : Prop :=
  ∀ n : Nat, n < 2 ^ 53 →
    F64.finite (F64.ofNat n) = true ∧ F64.units (F64.ofNat n) = (n : Int) * 2 ^ 1074

/-- 00 R14: +f is fl of the exact sum and -f is fl of the exact difference: when the result is finite, no
finite value is nearer to it, and on a tie the result is the even one. -/
def Obligations.AdditionAndSubtractionRoundToNearestEven : Prop :=
  ∀ x y : F64, F64.finite x = true → F64.finite y = true →
    (F64.finite (F64.add x y) = true → ∀ z : F64, F64.finite z = true →
      |F64.units (F64.add x y) - (F64.units x + F64.units y)| ≤
        |F64.units z - (F64.units x + F64.units y)| ∧
      (F64.units z ≠ F64.units (F64.add x y) →
        |F64.units (F64.add x y) - (F64.units x + F64.units y)| =
          |F64.units z - (F64.units x + F64.units y)| →
        (F64.add x y).getLsbD 0 = false)) ∧
    (F64.finite (F64.sub x y) = true → ∀ z : F64, F64.finite z = true →
      |F64.units (F64.sub x y) - (F64.units x - F64.units y)| ≤
        |F64.units z - (F64.units x - F64.units y)| ∧
      (F64.units z ≠ F64.units (F64.sub x y) →
        |F64.units (F64.sub x y) - (F64.units x - F64.units y)| =
          |F64.units z - (F64.units x - F64.units y)| →
        (F64.sub x y).getLsbD 0 = false))

/-- 00 R14: *f is fl of the exact product (both sides in units of 2^-2148). -/
def Obligations.MultiplicationRoundsToNearestEven : Prop :=
  ∀ x y : F64, F64.finite x = true → F64.finite y = true → F64.finite (F64.mul x y) = true →
    ∀ z : F64, F64.finite z = true →
      |F64.units (F64.mul x y) * 2 ^ 1074 - F64.units x * F64.units y| ≤
        |F64.units z * 2 ^ 1074 - F64.units x * F64.units y| ∧
      (F64.units z ≠ F64.units (F64.mul x y) →
        |F64.units (F64.mul x y) * 2 ^ 1074 - F64.units x * F64.units y| =
          |F64.units z * 2 ^ 1074 - F64.units x * F64.units y| →
        (F64.mul x y).getLsbD 0 = false)

/-- 00 R14: /f is fl of the exact quotient (both sides multiplied by the divisor). -/
def Obligations.DivisionRoundsToNearestEven : Prop :=
  ∀ x y : F64, F64.finite x = true → F64.finite y = true → F64.units y ≠ 0 →
    F64.finite (F64.div x y) = true →
    ∀ z : F64, F64.finite z = true →
      |F64.units (F64.div x y) * F64.units y - F64.units x * 2 ^ 1074| ≤
        |F64.units z * F64.units y - F64.units x * 2 ^ 1074| ∧
      (F64.units z ≠ F64.units (F64.div x y) →
        |F64.units (F64.div x y) * F64.units y - F64.units x * 2 ^ 1074| =
          |F64.units z * F64.units y - F64.units x * 2 ^ 1074| →
        (F64.div x y).getLsbD 0 = false)

/-- 41 R254, R255, R258, R262: MSEF is the exact quotient rounded once, finite and not negative, and +0.0
for SSD 0; PSNRF of both zeros is exactly 100.0, and of a positive number 10.0 *f LOG10_FN(65025.0 /f m),
whatever LOG10_FN is; WPSNRF is ((6.0 *f py) +f pu +f pv) /f 8.0, left to right. -/
def Obligations.MsePsnrAndWpsnrFollowTheirFormulas : Prop :=
  (∀ ssd cnt, ssd < 2 ^ 53 → 1 ≤ cnt → cnt < 2 ^ 53 →
    F64.finite (msef ssd cnt) = true ∧ F64.le 0x0000000000000000#64 (msef ssd cnt) = true ∧
    (∀ z : F64, F64.finite z = true →
      |F64.units (msef ssd cnt) * cnt - ssd * 2 ^ 1074| ≤ |F64.units z * cnt - ssd * 2 ^ 1074| ∧
      (F64.units z ≠ F64.units (msef ssd cnt) →
        |F64.units (msef ssd cnt) * cnt - ssd * 2 ^ 1074| = |F64.units z * cnt - ssd * 2 ^ 1074| →
        (msef ssd cnt).getLsbD 0 = false))) ∧
  (∀ cnt, 1 ≤ cnt → cnt < 2 ^ 53 → msef 0 cnt = 0x0000000000000000#64) ∧
  psnrf 0x0000000000000000#64 = 0x4059000000000000#64 ∧
  psnrf 0x8000000000000000#64 = 0x4059000000000000#64 ∧
  (∀ m : F64, F64.lt 0x0000000000000000#64 m = true →
    psnrf m = F64.mul 0x4024000000000000#64 (log10Fn (F64.div 0x40EFC02000000000#64 m))) ∧
  (∀ py pu pv : F64,
    wpsnrf py pu pv =
      F64.div (F64.add (F64.add (F64.mul 0x4018000000000000#64 py) pu) pv) 0x4020000000000000#64)

/-- 41 R263: whatever function LOG10_FN is, if it has finite values and (L1), PSNRF does not increase with
the MSE, for the MSEs the block can have: nonzero ones are at least 2^-46 (41 R262). The block's own
LOG10_FN has finite values, and every PSNRF result is finite (41 R262; log 12 for both). -/
def Obligations.PsnrIsNonIncreasingAndFinite : Prop :=
  (∀ log : F64 → F64, (∀ x, F64.PositiveFinite x → F64.finite (log x) = true) → Log10Monotone log →
    ∀ m1 m2 : F64, F64.finite m2 = true → F64.le 0x3D10000000000000#64 m1 = true →
      F64.le m1 m2 = true → F64.le (psnrWith log m2) (psnrWith log m1) = true) ∧
  (∀ x, F64.finite (log10Fn x) = true) ∧
  (∀ m, psnrf m = psnrWith log10Fn m) ∧
  (∀ m, F64.finite (psnrf m) = true)

/-- 41 R265, R266: in QUANTF's domain the byte is floor(((c -f lo) /f (hi -f lo)) *f 255.0) for the value c
clamped into the bounds; a greater value never gives a smaller byte; at or below the lower bound the byte
is 0, at or above the upper bound it is 255. -/
def Obligations.QuantizerFloorsAndIsMonotone : Prop :=
  ∀ lo hi v v' : F64, F64.lt lo hi = true → F64.finite (F64.sub hi lo) = true →
    F64.isNaN v = false → F64.isNaN v' = false →
    (let c := if F64.lt v lo = true then lo else if F64.lt hi v = true then hi else v
     let q := F64.mul (F64.div (F64.sub c lo) (F64.sub hi lo)) 0x406FE00000000000#64
     F64.finite q = true ∧
     ((quantf v lo hi).toNat : Int) * 2 ^ 1074 ≤ F64.units q ∧
     F64.units q < ((quantf v lo hi).toNat + 1 : Int) * 2 ^ 1074) ∧
    (F64.le v v' = true → (quantf v lo hi).toNat ≤ (quantf v' lo hi).toNat) ∧
    (F64.le v lo = true → quantf v lo hi = 0#8) ∧
    (F64.le hi v = true → quantf v lo hi = 255#8)

/-- 41 R264: the list the percentile interpolates in is L sorted ascending: the same values, each at
most the next. With t = p * (N - 1) = 100 * i + g, PCTF is v[i] where g = 0, and
v[i] +f ((v[i+1] -f v[i]) *f (toF64(g) /f 100.0)) where g is not 0. Of finite values it is never a NaN
(41 R262). -/
def Obligations.PercentileSortsAndInterpolates : Prop :=
  ∀ vs : List F64, (∀ v ∈ vs, F64.isNaN v = false) →
    (sortAscending vs).Perm vs ∧
    (sortAscending vs).Pairwise (fun a b => F64.le a b = true) ∧
    (∀ p i, vs ≠ [] → p * (vs.length - 1) = 100 * i → pctf p vs = (sortAscending vs).getD i 0#64) ∧
    (∀ p i g, vs ≠ [] → p * (vs.length - 1) = 100 * i + g → 0 < g → g < 100 →
      pctf p vs =
        F64.add ((sortAscending vs).getD i 0#64)
          (F64.mul
            (F64.sub ((sortAscending vs).getD (i + 1) 0#64) ((sortAscending vs).getD i 0#64))
            (F64.div (F64.ofNat g) 0x4059000000000000#64))) ∧
    ((∀ v ∈ vs, F64.finite v = true) → ∀ p, F64.isNaN (pctf p vs) = false)

/-- 44 R400's corner case: with one frame the averages are that frame's values, because x /f 1.0 = x: FRAME
on an empty sequence and then SEQ_FINISH give, for ALL and each valid partition, the frame's MSEs and their
PSNRs bit for bit, and averages equal to the frame's PSNRs (a sum starts at +0.0, 43 R362, so a -0.0
averages to +0.0). -/
def Obligations.AveragesOfOneFrameAreItsValues : Prop :=
  (∀ x : F64, F64.finite x = true → avgf x 1 = x) ∧
  (∀ s : State, FrameReady s → ConfigLegal s →
    s.frames = 0#32 → s.roiFrames = 0#32 → s.nroiFrames = 0#32 → s.resSum = ⟨{}, {}, {}⟩ →
    ∃ t u, exec .frame s = .next t ∧ exec .seqFinish t = .next u ∧
      OneFrameAverages t.resFrame.all u.resSeq.all ∧
      (t.valid.frameRoi = true → OneFrameAverages t.resFrame.roi u.resSeq.roi) ∧
      (t.valid.frameNroi = true → OneFrameAverages t.resFrame.nroi u.resSeq.nroi) ∧
      u.valid.seqRoi = t.valid.frameRoi ∧ u.valid.seqNroi = t.valid.frameNroi)

/-! ### The bus (spec/20) -/

/-- 20 R103, R106 to R108: exactly these accesses at an offset of the block are answered with BUSERR, and
such an access changes no state of the block. -/
def Obligations.BusErrorsExactlyWhereListed : Prop :=
  ∀ (s : State) (a : Access) (off : Nat) (sz : Size), s.params.Legal → off < 2 ^ 27 →
    let bad : Prop :=
      (off < 0x1000 ∧ ¬ (sz = .four ∧ off % 4 = 0)) ∨
      (0x1000 ≤ off ∧ off < 0x01000000) ∨ 0x06000000 ≤ off ∨
      (∃ sp : Space, sp.start ≤ off ∧ off < sp.start + 2 ^ 24 ∧
        ((off - sp.start) % sz.bytes ≠ 0 ∨ sp.bytes s.params < off - sp.start + sz.bytes ∨
         ((sp = .store ∨ sp = .map) ∧ a ≠ .read)))
    (bad → hostAccess s a off sz = { s with response := some .busErr }) ∧
    (¬ bad → (hostAccess s a off sz).response ≠ some .busErr)

/-- 20 R110: no read has a side effect on the block; and reading the register window again answers the
same. -/
def Obligations.ReadsHaveNoSideEffect : Prop :=
  ∀ (s : State) (off : Nat) (sz : Size),
    SameBlock s (hostAccess s .read off sz) ∧
    (off < 0x1000 →
      (hostAccess (hostAccess s .read off sz) .read off sz).response =
        (hostAccess s .read off sz).response)

/-- 20 R112: a WRITE to a busy-protected target while BUSY = 1 (CFG_WIDTH, CFG_HEIGHT, the four words of
MAP_MIN and MAP_MAX, the bytes of REF_BUF, TST_BUF and MASK_BUF) returns OK, stores nothing and sets
WR_DROP; IRQ_EN and STATUS are not protected. -/
def Obligations.BusyProtectedWritesAreDropped : Prop :=
  ∀ (s : State) (w : Word), s.busy = true → s.params.Legal →
    (∀ off ∈ [0x020, 0x024, 0x060, 0x064, 0x068, 0x06C],
      hostAccess s (.write w) off .four = { s with wrDrop := true, response := some .okWrite }) ∧
    (∀ (sp : Space) (boff : Nat) (sz : Size), sp = .ref ∨ sp = .tst ∨ sp = .mask →
      boff % sz.bytes = 0 → boff + sz.bytes ≤ sp.bytes s.params →
      hostAccess s (.write w) (sp.start + boff) sz =
        { s with wrDrop := true, response := some .okWrite }) ∧
    hostAccess s (.write w) 0x014 .four =
      { s with doneIe := w.getLsbD 0, errIe := w.getLsbD 1, response := some .okWrite } ∧
    hostAccess s (.write w) 0x00C .four = { writeStatus s w with response := some .okWrite }

/-- 10 R36: a write to STATUS clears every W1C bit whose bit in the written value is 1 and leaves every
other bit, while BUSY = 1 as well. -/
def Obligations.StatusWriteClearsOnlyOnes : Prop :=
  ∀ (s : State) (w : Word),
    hostAccess s (.write w) 0x00C .four =
      { s with done := if w.getLsbD 1 then false else s.done,
               cmdOvr := if w.getLsbD 3 then false else s.cmdOvr,
               rej := if w.getLsbD 4 then false else s.rej,
               wrDrop := if w.getLsbD 5 then false else s.wrDrop,
               response := some .okWrite }

/-- 10 R30, R38, R39, R40, R49: what a 4-byte write to a register other than CMD and STATUS stores. IRQ_EN
takes its two bits and a read-only or unassigned offset ignores the write, whether BUSY or not; while
BUSY = 0 a staged dimension takes the low 16 bits, and a bound's word its half. Everything else is unchanged,
and the answer is OK. -/
def Obligations.RegisterWritesStoreOrAreIgnored : Prop :=
  ∀ (s : State) (w : Word),
    hostAccess s (.write w) 0x014 .four =
      { s with doneIe := w.getLsbD 0, errIe := w.getLsbD 1, response := some .okWrite } ∧
    (∀ off, off < 0x1000 → off % 4 = 0 →
      off ∉ [0x008, 0x00C, 0x014, 0x020, 0x024, 0x060, 0x064, 0x068, 0x06C] →
      hostAccess s (.write w) off .four = { s with response := some .okWrite }) ∧
    (s.busy = false →
      hostAccess s (.write w) 0x020 .four =
        { s with cfgWidth := w.extractLsb' 0 16, response := some .okWrite } ∧
      hostAccess s (.write w) 0x024 .four =
        { s with cfgHeight := w.extractLsb' 0 16, response := some .okWrite } ∧
      hostAccess s (.write w) 0x060 .four =
        { s with mapMin := s.mapMin.extractLsb' 32 32 ++ w, response := some .okWrite } ∧
      hostAccess s (.write w) 0x064 .four =
        { s with mapMin := w ++ s.mapMin.extractLsb' 0 32, response := some .okWrite } ∧
      hostAccess s (.write w) 0x068 .four =
        { s with mapMax := s.mapMax.extractLsb' 32 32 ++ w, response := some .okWrite } ∧
      hostAccess s (.write w) 0x06C .four =
        { s with mapMax := w ++ s.mapMax.extractLsb' 0 32, response := some .okWrite })

/-- 20 R103, R105: a WRITE to an input buffer while BUSY = 0 stores its bytes, little-endian, and no
other; a READ of the same bytes then returns them. -/
def Obligations.BufferWriteThenRead : Prop :=
  ∀ (s : State) (sp : Space) (boff : Nat) (sz : Size) (w : Word),
    s.params.Legal → s.busy = false → sp = .ref ∨ sp = .tst ∨ sp = .mask →
    boff % sz.bytes = 0 → boff + sz.bytes ≤ sp.bytes s.params →
    ∃ t, hostAccess s (.write w) (sp.start + boff) sz = t ∧
      t = { s with mem := t.mem, response := some .okWrite } ∧
      (∀ j, j < sz.bytes → byteAt t (sp.start + boff + j) = w.extractLsb' (8 * j) 8) ∧
      (∀ a, (a < sp.start + boff ∨ sp.start + boff + sz.bytes ≤ a) → byteAt t a = byteAt s a) ∧
      (hostAccess t .read (sp.start + boff) sz).response =
        some (.okRead (BitVec.ofNat 32 (w.toNat % 2 ^ (8 * sz.bytes))))

/-- 20 R114, R105: a READ of SSD_STORE entry i < STORE_COUNT returns the stored entry, in flight or not,
and a READ of MAP_BUF byte i returns the map's byte when MAP_VALID = 1, i < MAP_COUNT and no MAP is in
flight. Otherwise the answer does not depend on what the memory holds (any value, 93 U4; log 8). -/
def Obligations.StoreAndMapReadsAreStoredWhereSpecified : Prop :=
  ∀ (s : State) (i : Nat), s.params.Legal → i < s.params.storeEntries →
    (i < s.storeCount.toNat →
      hostAccess s .read (0x04000000 + 4 * i) .four =
        { s with response := some (.okRead (BitVec.ofNat 32 (memRead s .store (4 * i) 4))) }) ∧
    (s.storeCount.toNat ≤ i →
      ∀ m : Memory,
        (hostAccess { s with mem := m } .read (0x04000000 + 4 * i) .four).response =
          (hostAccess s .read (0x04000000 + 4 * i) .four).response) ∧
    (s.valid.mapValid = true → i < s.mapCount.toNat →
      (s.busy = true → ∀ n x, decode s.curCmd ≠ .ok (.map n x)) →
      hostAccess s .read (0x05000000 + i) .one =
        { s with response := some (.okRead ((byteAt s (0x05000000 + i)).setWidth 32)) }) ∧
    ((s.valid.mapValid = false ∨ s.mapCount.toNat ≤ i ∨
        (s.busy = true ∧ ∃ n x, decode s.curCmd = .ok (.map n x))) →
      ∀ m : Memory,
        (hostAccess { s with mem := m } .read (0x05000000 + i) .one).response =
          (hostAccess s .read (0x05000000 + i) .one).response)

/-- 10 R50 to R54, R56: what a host reads in the result window. The stats of scope s and partition p stand
at off(s, p, k) = 0x400 + 8*((s*4 + p)*16 + k), low word first, in the orders of R51 to R54; the other
stats and partition 3 read 0. Scopes 0 to 3 are FRAME, SUM, SEQ and SSD, partitions 0 to 2 ALL, ROI, NROI. -/
def Obligations.ResultWindowLayout : Prop :=
  ∀ s : State,
    resultRow s 0 0 = frameRow s.resFrame.all ∧ resultRow s 0 1 = frameRow s.resFrame.roi ∧
    resultRow s 0 2 = frameRow s.resFrame.nroi ∧ resultRow s 0 3 = zeroRow ∧
    resultRow s 1 0 = frameRow s.resSum.all ∧ resultRow s 1 1 = frameRow s.resSum.roi ∧
    resultRow s 1 2 = frameRow s.resSum.nroi ∧ resultRow s 1 3 = zeroRow ∧
    resultRow s 2 0 = seqRow s.resSeq.all ∧ resultRow s 2 1 = seqRow s.resSeq.roi ∧
    resultRow s 2 2 = seqRow s.resSeq.nroi ∧ resultRow s 2 3 = zeroRow ∧
    resultRow s 3 0 = ssdRow s.resSsd.all ∧ resultRow s 3 1 = ssdRow s.resSsd.roi ∧
    resultRow s 3 2 = ssdRow s.resSsd.nroi ∧ resultRow s 3 3 = zeroRow

/-- 10 R30 to R49, R56, R57, 60 R500: what a host reads at every offset of the register window but the
result window: the bits of STATUS, ERRCODE with the error codes as numbers, IRQ_EN, ACT_CFG and VALID, the
halves of ACT_DIM and ACT_GRID, the counters, the parameters, the two words of each bound, and 0 at CMD and
at every unassigned offset. -/
def Obligations.RegistersReadTheirFields : Prop :=
  ∀ s : State,
    (∀ off, off < 0x1000 → off % 4 = 0 →
      (hostAccess s .read off .four).response = some (.okRead (readWindow s off))) ∧
    readWindow s 0x000 = 0x50534E52#32 ∧ readWindow s 0x004 = 0x00000100#32 ∧
    readWindow s 0x008 = 0#32 ∧
    ((readWindow s 0x00C).getLsbD 0 = s.busy ∧ (readWindow s 0x00C).getLsbD 1 = s.done ∧
      (readWindow s 0x00C).getLsbD 2 = s.err ∧ (readWindow s 0x00C).getLsbD 3 = s.cmdOvr ∧
      (readWindow s 0x00C).getLsbD 4 = s.rej ∧ (readWindow s 0x00C).getLsbD 5 = s.wrDrop ∧
      (readWindow s 0x00C).getLsbD 6 = irq s ∧ (readWindow s 0x00C).getLsbD 7 = false ∧
      ((readWindow s 0x00C).extractLsb' 8 2 = 0#2 ↔ s.seqState = .idle) ∧
      ((readWindow s 0x00C).extractLsb' 8 2 = 1#2 ↔ s.seqState = .opened) ∧
      ((readWindow s 0x00C).extractLsb' 8 2 = 2#2 ↔ s.seqState = .closed) ∧
      ((readWindow s 0x00C).extractLsb' 8 2 = 3#2 ↔ s.seqState = .aborted) ∧
      (readWindow s 0x00C).getLsbD 10 = s.cfgValid ∧
      (readWindow s 0x00C).extractLsb' 11 21 = 0#21) ∧
    ((∀ e ∈ [(ErrorCode.noError, 0x00#8), (.illegalCmd, 0x01#8), (.seqState, 0x02#8),
          (.notConfigured, 0x03#8), (.cfgDimZero, 0x04#8), (.cfgDimAlign, 0x05#8),
          (.cfgDimRange, 0x06#8), (.storeFull, 0x07#8), (.emptyPartitionRoi, 0x08#8),
          (.emptyPartitionNroi, 0x09#8), (.seqEmpty, 0x0A#8), (.mapEmpty, 0x0B#8),
          (.mapBoundInvalid, 0x0C#8), (.mapInverted, 0x0D#8), (.mapDegenerate, 0x0E#8)],
        (readWindow s 0x010).extractLsb' 0 8 = e.2 ↔ s.errCode = e.1) ∧
      (readWindow s 0x010).extractLsb' 8 8 = s.errOp ∧
      (readWindow s 0x010).extractLsb' 16 16 = 0#16) ∧
    ((readWindow s 0x014).getLsbD 0 = s.doneIe ∧ (readWindow s 0x014).getLsbD 1 = s.errIe ∧
      (readWindow s 0x014).extractLsb' 2 30 = 0#30) ∧
    readWindow s 0x020 = 0#16 ++ s.cfgWidth ∧ readWindow s 0x024 = 0#16 ++ s.cfgHeight ∧
    readWindow s 0x028 = s.actH ++ s.actW ∧ readWindow s 0x02C = s.nbh ++ s.nbw ∧
    ((readWindow s 0x030).getLsbD 0 = s.cfgValid ∧ (readWindow s 0x030).getLsbD 1 = s.roiEn ∧
      (readWindow s 0x030).getLsbD 2 = s.epSkip ∧ (readWindow s 0x030).extractLsb' 3 29 = 0#29) ∧
    readWindow s 0x034 = s.frames ∧ readWindow s 0x038 = s.roiFrames ∧
    readWindow s 0x03C = s.nroiFrames ∧
    readWindow s 0x040 = BitVec.ofNat 32 s.params.frameBufBytes ∧
    readWindow s 0x044 = BitVec.ofNat 32 s.params.maskBufBytes ∧
    readWindow s 0x048 = BitVec.ofNat 32 s.params.storeEntries ∧
    readWindow s 0x04C = s.storeCount ∧ readWindow s 0x050 = s.frameBlocks ∧
    readWindow s 0x054 = s.frameRoiBlocks ∧
    ((readWindow s 0x058).getLsbD 0 = s.valid.frameAll ∧
      (readWindow s 0x058).getLsbD 1 = s.valid.frameRoi ∧
      (readWindow s 0x058).getLsbD 2 = s.valid.frameNroi ∧ (readWindow s 0x058).getLsbD 3 = false ∧
      (readWindow s 0x058).getLsbD 4 = s.valid.seqAll ∧
      (readWindow s 0x058).getLsbD 5 = s.valid.seqRoi ∧
      (readWindow s 0x058).getLsbD 6 = s.valid.seqNroi ∧ (readWindow s 0x058).getLsbD 7 = false ∧
      (readWindow s 0x058).getLsbD 8 = s.valid.mapValid ∧
      (readWindow s 0x058).extractLsb' 9 23 = 0#23) ∧
    readWindow s 0x064 ++ readWindow s 0x060 = s.mapMin ∧
    readWindow s 0x06C ++ readWindow s 0x068 = s.mapMax ∧
    readWindow s 0x074 ++ readWindow s 0x070 = s.mapMinEff ∧
    readWindow s 0x07C ++ readWindow s 0x078 = s.mapMaxEff ∧
    readWindow s 0x080 = s.mapCount ∧
    (∀ off, (off < 0x400 ∨ 0xC00 ≤ off) →
      off ∉ [0x000, 0x004, 0x00C, 0x010, 0x014, 0x020, 0x024, 0x028, 0x02C, 0x030, 0x034, 0x038, 0x03C,
        0x040, 0x044, 0x048, 0x04C, 0x050, 0x054, 0x058, 0x060, 0x064, 0x068, 0x06C, 0x070, 0x074, 0x078,
        0x07C, 0x080] →
      readWindow s off = 0#32)

/-- 60 R520: irq is (DONE and DONE_IE) or (ERR and ERR_IE), STATUS.IRQ reads it, and it drops with its
cause: writing 1 to DONE or accepting a command clears DONE, CLEAR_ERR clears ERR; clearing the enables
drops it too. -/
def Obligations.InterruptFollowsItsCauses : Prop :=
  ∀ s : State,
    (irq s = true ↔ (s.done = true ∧ s.doneIe = true) ∨ (s.err = true ∧ s.errIe = true)) ∧
    (statusWord s).getLsbD 6 = irq s ∧
    (∀ w : Word, w.getLsbD 1 = true → irq (writeStatus s w) = (s.err && s.errIe)) ∧
    (∀ w : Word, s.busy = false → (s.err = false ∨ acceptedUnderErr w = true) →
      irq (issue s w) = (s.err && s.errIe)) ∧
    (∀ t, exec .clearErr s = .next t → irq t = s.doneIe) ∧
    (∀ w : Word, w.getLsbD 0 = false → w.getLsbD 1 = false → irq (writeIrqEn s w) = false)

/-! ### Host programs (30 R160) -/

/-- 30 R160: WAIT ends once BUSY is 0: with nothing else pending, two polls are enough, and it leaves the
block with no command in flight (the executor's schedule is the model's, log 18). -/
def Obligations.WaitEndsAfterTheCompletion : Prop :=
  ∀ s : State, s.inbox = [] →
    ∃ t, runWait 2 s = .ran t [] ∧ t.busy = false ∧ t.inbox = [] ∧
      (s.busy = false → t = { s with response := t.response })

/-- 30 R160: FILL of four bytes at an aligned offset of an input buffer gives the same end state as one
aligned W32 of the byte replicated four times. -/
def Obligations.FillEqualsWordWrite : Prop :=
  ∀ (s : State) (sp : Space) (boff : Nat) (b : Byte) (fuel : Nat),
    s.params.Legal → s.inbox = [] → sp = .ref ∨ sp = .tst ∨ sp = .mask →
    boff % 4 = 0 → boff + 4 ≤ sp.bytes s.params →
    runProgram fuel [.fill (sp.start + boff) 4 b] s =
      runProgram fuel [.write .four (sp.start + boff) (b ++ b ++ b ++ b)] s

/-! ### Reset (10 R64, 70 R600) -/

/-- 10 R64: after reset, for every choice of the parameters, ID, VERSION and the CAP_* registers read
their constants, and every other offset of the register window, the result window among them, reads 0;
SEQ_STATE is IDLE. -/
def Obligations.ResetRegisterValues : Prop :=
  ∀ p : Params,
    (State.powerOn p).seqState = .idle ∧
    ∀ off, readWindow (State.powerOn p) off =
      if off = 0x000 then 0x50534E52#32
      else if off = 0x004 then 0x00000100#32
      else if off = 0x040 then BitVec.ofNat 32 p.frameBufBytes
      else if off = 0x044 then BitVec.ofNat 32 p.maskBufBytes
      else if off = 0x048 then BitVec.ofNat 32 p.storeEntries
      else 0#32

/-- 70 R600: asserting reset is one step; a command in flight is abandoned, every offset of the register
window reads as after reset, and irq is 0. The model's own choice in the clauses on mem and inbox: the
reset stands at the head of the inbox and is used up (log 1, DESIGN CHOICE), and that buffer contents are
unspecified after it is the empty memory, whose every byte is a new free value (log 7, DESIGN CHOICE;
log 14, DEDUCED). -/
def Obligations.ResetAbandonsTheCommand : Prop :=
  ∀ (s : State) (q : List HostEvent), s.inbox = .reset :: q →
    ∃ t, step s = .next t ∧ t.busy = false ∧ t.seqState = .idle ∧ irq t = false ∧ t.mem = [] ∧
      t.inbox = q ∧ t.params = s.params ∧
      ∀ off, readWindow t off = readWindow (State.powerOn s.params) off

/-! ### Invariants -/

/-- The invariant of `Inv` holds after reset, for every legal choice of the parameters. -/
def Obligations.ResetMeetsInv : Prop := ∀ p : Params, p.Legal → Inv (State.powerOn p)

/-- Every step keeps `Inv`: the memory's canonical form, a legal configuration, the bounds of the
counters, ERRCODE and ERR together, DONE clear while BUSY, the VALID bits and +0.0 in invalid results
(10 R35, R37, R55, 43 R351, 45 R430, R437). -/
def Obligations.StepKeepsInv : Prop :=
  ∀ s t : State, Inv s → step s = .next t → Inv t

/-- 44 R401: with EP_SKIP = 0 and ROI_EN = 1, in an open sequence ROI_FRAMES = NROI_FRAMES = FRAMES;
every step keeps it. -/
def Obligations.StepKeepsCountersAgree : Prop :=
  ∀ s t : State, CountersAgree s → step s = .next t → CountersAgree t

/-- 10 R60: bits [31:24] of every valid SSD_STORE entry are 0; every step keeps it. -/
def Obligations.StepKeepsStoreTopClear : Prop :=
  ∀ s t : State, Inv s → StoreTopClear s → step s = .next t → StoreTopClear t

/-- 45 R430: MAP_EMPTY cannot occur: in a closed sequence of a state that meets `Inv` MAP never raises
it. -/
def Obligations.MapEmptyNeverOccurs : Prop :=
  ∀ (s t : State) (n x : Bool), Inv s → s.err = false → exec (.map n x) s = .next t →
    t.errCode ≠ .mapEmpty

/-- 20 R111: the engine never writes REF_BUF, TST_BUF or MASK_BUF, writes SSD_STORE only in FRAME and
MAP_BUF only in MAP. -/
def Obligations.EngineWritesOnlyItsBuffers : Prop :=
  ∀ (i : Instr) (s t : State), Inv s → exec i s = .next t →
    (∀ a, a < 0x04000000 → byteAt t a = byteAt s a) ∧
    (i ≠ .frame → ∀ a, 0x04000000 ≤ a → a < 0x05000000 → byteAt t a = byteAt s a) ∧
    ((∀ n x, i ≠ .map n x) → ∀ a, 0x05000000 ≤ a → byteAt t a = byteAt s a)
end

