-- ==== Sys2Proof/Laws/State.lean ====
section
/-! SUPPORT. What each named update of the state does to each field: one lemma per field per update. -/

namespace Sys2Proof.Machine

@[simp] theorem accept_params (s : State) (w : Word) : (accept s w).params = s.params := rfl
@[simp] theorem accept_curCmd (s : State) (w : Word) : (accept s w).curCmd = w := rfl
@[simp] theorem accept_busy (s : State) (w : Word) : (accept s w).busy = true := rfl
@[simp] theorem accept_done (s : State) (w : Word) : (accept s w).done = false := rfl
@[simp] theorem accept_err (s : State) (w : Word) : (accept s w).err = s.err := rfl
@[simp] theorem accept_cmdOvr (s : State) (w : Word) : (accept s w).cmdOvr = s.cmdOvr := rfl
@[simp] theorem accept_rej (s : State) (w : Word) : (accept s w).rej = s.rej := rfl
@[simp] theorem accept_wrDrop (s : State) (w : Word) : (accept s w).wrDrop = s.wrDrop := rfl
@[simp] theorem accept_seqState (s : State) (w : Word) : (accept s w).seqState = s.seqState := rfl
@[simp] theorem accept_errOp (s : State) (w : Word) : (accept s w).errOp = s.errOp := rfl
@[simp] theorem accept_errCode (s : State) (w : Word) : (accept s w).errCode = s.errCode := rfl
@[simp] theorem accept_doneIe (s : State) (w : Word) : (accept s w).doneIe = s.doneIe := rfl
@[simp] theorem accept_errIe (s : State) (w : Word) : (accept s w).errIe = s.errIe := rfl
@[simp] theorem accept_cfgWidth (s : State) (w : Word) : (accept s w).cfgWidth = s.cfgWidth := rfl
@[simp] theorem accept_cfgHeight (s : State) (w : Word) : (accept s w).cfgHeight = s.cfgHeight := rfl
@[simp] theorem accept_actW (s : State) (w : Word) : (accept s w).actW = s.actW := rfl
@[simp] theorem accept_actH (s : State) (w : Word) : (accept s w).actH = s.actH := rfl
@[simp] theorem accept_nbw (s : State) (w : Word) : (accept s w).nbw = s.nbw := rfl
@[simp] theorem accept_nbh (s : State) (w : Word) : (accept s w).nbh = s.nbh := rfl
@[simp] theorem accept_cfgValid (s : State) (w : Word) : (accept s w).cfgValid = s.cfgValid := rfl
@[simp] theorem accept_roiEn (s : State) (w : Word) : (accept s w).roiEn = s.roiEn := rfl
@[simp] theorem accept_epSkip (s : State) (w : Word) : (accept s w).epSkip = s.epSkip := rfl
@[simp] theorem accept_frames (s : State) (w : Word) : (accept s w).frames = s.frames := rfl
@[simp] theorem accept_roiFrames (s : State) (w : Word) : (accept s w).roiFrames = s.roiFrames := rfl
@[simp] theorem accept_nroiFrames (s : State) (w : Word) : (accept s w).nroiFrames = s.nroiFrames := rfl
@[simp] theorem accept_storeCount (s : State) (w : Word) : (accept s w).storeCount = s.storeCount := rfl
@[simp] theorem accept_frameBlocks (s : State) (w : Word) : (accept s w).frameBlocks = s.frameBlocks := rfl
@[simp] theorem accept_frameRoiBlocks (s : State) (w : Word) : (accept s w).frameRoiBlocks = s.frameRoiBlocks := rfl
@[simp] theorem accept_valid (s : State) (w : Word) : (accept s w).valid = s.valid := rfl
@[simp] theorem accept_mapMin (s : State) (w : Word) : (accept s w).mapMin = s.mapMin := rfl
@[simp] theorem accept_mapMax (s : State) (w : Word) : (accept s w).mapMax = s.mapMax := rfl
@[simp] theorem accept_mapMinEff (s : State) (w : Word) : (accept s w).mapMinEff = s.mapMinEff := rfl
@[simp] theorem accept_mapMaxEff (s : State) (w : Word) : (accept s w).mapMaxEff = s.mapMaxEff := rfl
@[simp] theorem accept_mapCount (s : State) (w : Word) : (accept s w).mapCount = s.mapCount := rfl
@[simp] theorem accept_resFrame (s : State) (w : Word) : (accept s w).resFrame = s.resFrame := rfl
@[simp] theorem accept_resSum (s : State) (w : Word) : (accept s w).resSum = s.resSum := rfl
@[simp] theorem accept_resSeq (s : State) (w : Word) : (accept s w).resSeq = s.resSeq := rfl
@[simp] theorem accept_resSsd (s : State) (w : Word) : (accept s w).resSsd = s.resSsd := rfl
@[simp] theorem accept_mem (s : State) (w : Word) : (accept s w).mem = s.mem := rfl
@[simp] theorem accept_resets (s : State) (w : Word) : (accept s w).resets = s.resets := rfl
@[simp] theorem accept_draws (s : State) (w : Word) : (accept s w).draws = s.draws := rfl
@[simp] theorem accept_inbox (s : State) (w : Word) : (accept s w).inbox = s.inbox := rfl
@[simp] theorem accept_response (s : State) (w : Word) : (accept s w).response = s.response := rfl

@[simp] theorem complete_params (s : State) : (complete s).params = s.params := rfl
@[simp] theorem complete_curCmd (s : State) : (complete s).curCmd = s.curCmd := rfl
@[simp] theorem complete_busy (s : State) : (complete s).busy = false := rfl
@[simp] theorem complete_done (s : State) : (complete s).done = true := rfl
@[simp] theorem complete_err (s : State) : (complete s).err = s.err := rfl
@[simp] theorem complete_cmdOvr (s : State) : (complete s).cmdOvr = s.cmdOvr := rfl
@[simp] theorem complete_rej (s : State) : (complete s).rej = s.rej := rfl
@[simp] theorem complete_wrDrop (s : State) : (complete s).wrDrop = s.wrDrop := rfl
@[simp] theorem complete_seqState (s : State) : (complete s).seqState = s.seqState := rfl
@[simp] theorem complete_errOp (s : State) : (complete s).errOp = s.errOp := rfl
@[simp] theorem complete_errCode (s : State) : (complete s).errCode = s.errCode := rfl
@[simp] theorem complete_doneIe (s : State) : (complete s).doneIe = s.doneIe := rfl
@[simp] theorem complete_errIe (s : State) : (complete s).errIe = s.errIe := rfl
@[simp] theorem complete_cfgWidth (s : State) : (complete s).cfgWidth = s.cfgWidth := rfl
@[simp] theorem complete_cfgHeight (s : State) : (complete s).cfgHeight = s.cfgHeight := rfl
@[simp] theorem complete_actW (s : State) : (complete s).actW = s.actW := rfl
@[simp] theorem complete_actH (s : State) : (complete s).actH = s.actH := rfl
@[simp] theorem complete_nbw (s : State) : (complete s).nbw = s.nbw := rfl
@[simp] theorem complete_nbh (s : State) : (complete s).nbh = s.nbh := rfl
@[simp] theorem complete_cfgValid (s : State) : (complete s).cfgValid = s.cfgValid := rfl
@[simp] theorem complete_roiEn (s : State) : (complete s).roiEn = s.roiEn := rfl
@[simp] theorem complete_epSkip (s : State) : (complete s).epSkip = s.epSkip := rfl
@[simp] theorem complete_frames (s : State) : (complete s).frames = s.frames := rfl
@[simp] theorem complete_roiFrames (s : State) : (complete s).roiFrames = s.roiFrames := rfl
@[simp] theorem complete_nroiFrames (s : State) : (complete s).nroiFrames = s.nroiFrames := rfl
@[simp] theorem complete_storeCount (s : State) : (complete s).storeCount = s.storeCount := rfl
@[simp] theorem complete_frameBlocks (s : State) : (complete s).frameBlocks = s.frameBlocks := rfl
@[simp] theorem complete_frameRoiBlocks (s : State) : (complete s).frameRoiBlocks = s.frameRoiBlocks := rfl
@[simp] theorem complete_valid (s : State) : (complete s).valid = s.valid := rfl
@[simp] theorem complete_mapMin (s : State) : (complete s).mapMin = s.mapMin := rfl
@[simp] theorem complete_mapMax (s : State) : (complete s).mapMax = s.mapMax := rfl
@[simp] theorem complete_mapMinEff (s : State) : (complete s).mapMinEff = s.mapMinEff := rfl
@[simp] theorem complete_mapMaxEff (s : State) : (complete s).mapMaxEff = s.mapMaxEff := rfl
@[simp] theorem complete_mapCount (s : State) : (complete s).mapCount = s.mapCount := rfl
@[simp] theorem complete_resFrame (s : State) : (complete s).resFrame = s.resFrame := rfl
@[simp] theorem complete_resSum (s : State) : (complete s).resSum = s.resSum := rfl
@[simp] theorem complete_resSeq (s : State) : (complete s).resSeq = s.resSeq := rfl
@[simp] theorem complete_resSsd (s : State) : (complete s).resSsd = s.resSsd := rfl
@[simp] theorem complete_mem (s : State) : (complete s).mem = s.mem := rfl
@[simp] theorem complete_resets (s : State) : (complete s).resets = s.resets := rfl
@[simp] theorem complete_draws (s : State) : (complete s).draws = s.draws := rfl
@[simp] theorem complete_inbox (s : State) : (complete s).inbox = s.inbox := rfl
@[simp] theorem complete_response (s : State) : (complete s).response = s.response := rfl

@[simp] theorem raiseError_params (s : State) (e : ErrorCode) : (raiseError s e).params = s.params := rfl
@[simp] theorem raiseError_curCmd (s : State) (e : ErrorCode) : (raiseError s e).curCmd = s.curCmd := rfl
@[simp] theorem raiseError_busy (s : State) (e : ErrorCode) : (raiseError s e).busy = false := rfl
@[simp] theorem raiseError_done (s : State) (e : ErrorCode) : (raiseError s e).done = true := rfl
@[simp] theorem raiseError_err (s : State) (e : ErrorCode) : (raiseError s e).err = true := rfl
@[simp] theorem raiseError_cmdOvr (s : State) (e : ErrorCode) : (raiseError s e).cmdOvr = s.cmdOvr := rfl
@[simp] theorem raiseError_rej (s : State) (e : ErrorCode) : (raiseError s e).rej = s.rej := rfl
@[simp] theorem raiseError_wrDrop (s : State) (e : ErrorCode) : (raiseError s e).wrDrop = s.wrDrop := rfl
@[simp] theorem raiseError_seqState (s : State) (e : ErrorCode) : (raiseError s e).seqState = s.seqState := rfl
@[simp] theorem raiseError_errOp (s : State) (e : ErrorCode) : (raiseError s e).errOp = opField s.curCmd := rfl
@[simp] theorem raiseError_errCode (s : State) (e : ErrorCode) : (raiseError s e).errCode = e := rfl
@[simp] theorem raiseError_doneIe (s : State) (e : ErrorCode) : (raiseError s e).doneIe = s.doneIe := rfl
@[simp] theorem raiseError_errIe (s : State) (e : ErrorCode) : (raiseError s e).errIe = s.errIe := rfl
@[simp] theorem raiseError_cfgWidth (s : State) (e : ErrorCode) : (raiseError s e).cfgWidth = s.cfgWidth := rfl
@[simp] theorem raiseError_cfgHeight (s : State) (e : ErrorCode) : (raiseError s e).cfgHeight = s.cfgHeight := rfl
@[simp] theorem raiseError_actW (s : State) (e : ErrorCode) : (raiseError s e).actW = s.actW := rfl
@[simp] theorem raiseError_actH (s : State) (e : ErrorCode) : (raiseError s e).actH = s.actH := rfl
@[simp] theorem raiseError_nbw (s : State) (e : ErrorCode) : (raiseError s e).nbw = s.nbw := rfl
@[simp] theorem raiseError_nbh (s : State) (e : ErrorCode) : (raiseError s e).nbh = s.nbh := rfl
@[simp] theorem raiseError_cfgValid (s : State) (e : ErrorCode) : (raiseError s e).cfgValid = s.cfgValid := rfl
@[simp] theorem raiseError_roiEn (s : State) (e : ErrorCode) : (raiseError s e).roiEn = s.roiEn := rfl
@[simp] theorem raiseError_epSkip (s : State) (e : ErrorCode) : (raiseError s e).epSkip = s.epSkip := rfl
@[simp] theorem raiseError_frames (s : State) (e : ErrorCode) : (raiseError s e).frames = s.frames := rfl
@[simp] theorem raiseError_roiFrames (s : State) (e : ErrorCode) : (raiseError s e).roiFrames = s.roiFrames := rfl
@[simp] theorem raiseError_nroiFrames (s : State) (e : ErrorCode) : (raiseError s e).nroiFrames = s.nroiFrames := rfl
@[simp] theorem raiseError_storeCount (s : State) (e : ErrorCode) : (raiseError s e).storeCount = s.storeCount := rfl
@[simp] theorem raiseError_frameBlocks (s : State) (e : ErrorCode) : (raiseError s e).frameBlocks = s.frameBlocks := rfl
@[simp] theorem raiseError_frameRoiBlocks (s : State) (e : ErrorCode) : (raiseError s e).frameRoiBlocks = s.frameRoiBlocks := rfl
@[simp] theorem raiseError_valid (s : State) (e : ErrorCode) : (raiseError s e).valid = s.valid := rfl
@[simp] theorem raiseError_mapMin (s : State) (e : ErrorCode) : (raiseError s e).mapMin = s.mapMin := rfl
@[simp] theorem raiseError_mapMax (s : State) (e : ErrorCode) : (raiseError s e).mapMax = s.mapMax := rfl
@[simp] theorem raiseError_mapMinEff (s : State) (e : ErrorCode) : (raiseError s e).mapMinEff = s.mapMinEff := rfl
@[simp] theorem raiseError_mapMaxEff (s : State) (e : ErrorCode) : (raiseError s e).mapMaxEff = s.mapMaxEff := rfl
@[simp] theorem raiseError_mapCount (s : State) (e : ErrorCode) : (raiseError s e).mapCount = s.mapCount := rfl
@[simp] theorem raiseError_resFrame (s : State) (e : ErrorCode) : (raiseError s e).resFrame = s.resFrame := rfl
@[simp] theorem raiseError_resSum (s : State) (e : ErrorCode) : (raiseError s e).resSum = s.resSum := rfl
@[simp] theorem raiseError_resSeq (s : State) (e : ErrorCode) : (raiseError s e).resSeq = s.resSeq := rfl
@[simp] theorem raiseError_resSsd (s : State) (e : ErrorCode) : (raiseError s e).resSsd = s.resSsd := rfl
@[simp] theorem raiseError_mem (s : State) (e : ErrorCode) : (raiseError s e).mem = s.mem := rfl
@[simp] theorem raiseError_resets (s : State) (e : ErrorCode) : (raiseError s e).resets = s.resets := rfl
@[simp] theorem raiseError_draws (s : State) (e : ErrorCode) : (raiseError s e).draws = s.draws := rfl
@[simp] theorem raiseError_inbox (s : State) (e : ErrorCode) : (raiseError s e).inbox = s.inbox := rfl
@[simp] theorem raiseError_response (s : State) (e : ErrorCode) : (raiseError s e).response = s.response := rfl

@[simp] theorem clearErrors_params (s : State) : (clearErrors s).params = s.params := rfl
@[simp] theorem clearErrors_curCmd (s : State) : (clearErrors s).curCmd = s.curCmd := rfl
@[simp] theorem clearErrors_busy (s : State) : (clearErrors s).busy = s.busy := rfl
@[simp] theorem clearErrors_done (s : State) : (clearErrors s).done = s.done := rfl
@[simp] theorem clearErrors_err (s : State) : (clearErrors s).err = false := rfl
@[simp] theorem clearErrors_cmdOvr (s : State) : (clearErrors s).cmdOvr = false := rfl
@[simp] theorem clearErrors_rej (s : State) : (clearErrors s).rej = false := rfl
@[simp] theorem clearErrors_wrDrop (s : State) : (clearErrors s).wrDrop = false := rfl
@[simp] theorem clearErrors_seqState (s : State) : (clearErrors s).seqState = s.seqState := rfl
@[simp] theorem clearErrors_errOp (s : State) : (clearErrors s).errOp = 0 := rfl
@[simp] theorem clearErrors_errCode (s : State) : (clearErrors s).errCode = .noError := rfl
@[simp] theorem clearErrors_doneIe (s : State) : (clearErrors s).doneIe = s.doneIe := rfl
@[simp] theorem clearErrors_errIe (s : State) : (clearErrors s).errIe = s.errIe := rfl
@[simp] theorem clearErrors_cfgWidth (s : State) : (clearErrors s).cfgWidth = s.cfgWidth := rfl
@[simp] theorem clearErrors_cfgHeight (s : State) : (clearErrors s).cfgHeight = s.cfgHeight := rfl
@[simp] theorem clearErrors_actW (s : State) : (clearErrors s).actW = s.actW := rfl
@[simp] theorem clearErrors_actH (s : State) : (clearErrors s).actH = s.actH := rfl
@[simp] theorem clearErrors_nbw (s : State) : (clearErrors s).nbw = s.nbw := rfl
@[simp] theorem clearErrors_nbh (s : State) : (clearErrors s).nbh = s.nbh := rfl
@[simp] theorem clearErrors_cfgValid (s : State) : (clearErrors s).cfgValid = s.cfgValid := rfl
@[simp] theorem clearErrors_roiEn (s : State) : (clearErrors s).roiEn = s.roiEn := rfl
@[simp] theorem clearErrors_epSkip (s : State) : (clearErrors s).epSkip = s.epSkip := rfl
@[simp] theorem clearErrors_frames (s : State) : (clearErrors s).frames = s.frames := rfl
@[simp] theorem clearErrors_roiFrames (s : State) : (clearErrors s).roiFrames = s.roiFrames := rfl
@[simp] theorem clearErrors_nroiFrames (s : State) : (clearErrors s).nroiFrames = s.nroiFrames := rfl
@[simp] theorem clearErrors_storeCount (s : State) : (clearErrors s).storeCount = s.storeCount := rfl
@[simp] theorem clearErrors_frameBlocks (s : State) : (clearErrors s).frameBlocks = s.frameBlocks := rfl
@[simp] theorem clearErrors_frameRoiBlocks (s : State) : (clearErrors s).frameRoiBlocks = s.frameRoiBlocks := rfl
@[simp] theorem clearErrors_valid (s : State) : (clearErrors s).valid = s.valid := rfl
@[simp] theorem clearErrors_mapMin (s : State) : (clearErrors s).mapMin = s.mapMin := rfl
@[simp] theorem clearErrors_mapMax (s : State) : (clearErrors s).mapMax = s.mapMax := rfl
@[simp] theorem clearErrors_mapMinEff (s : State) : (clearErrors s).mapMinEff = s.mapMinEff := rfl
@[simp] theorem clearErrors_mapMaxEff (s : State) : (clearErrors s).mapMaxEff = s.mapMaxEff := rfl
@[simp] theorem clearErrors_mapCount (s : State) : (clearErrors s).mapCount = s.mapCount := rfl
@[simp] theorem clearErrors_resFrame (s : State) : (clearErrors s).resFrame = s.resFrame := rfl
@[simp] theorem clearErrors_resSum (s : State) : (clearErrors s).resSum = s.resSum := rfl
@[simp] theorem clearErrors_resSeq (s : State) : (clearErrors s).resSeq = s.resSeq := rfl
@[simp] theorem clearErrors_resSsd (s : State) : (clearErrors s).resSsd = s.resSsd := rfl
@[simp] theorem clearErrors_mem (s : State) : (clearErrors s).mem = s.mem := rfl
@[simp] theorem clearErrors_resets (s : State) : (clearErrors s).resets = s.resets := rfl
@[simp] theorem clearErrors_draws (s : State) : (clearErrors s).draws = s.draws := rfl
@[simp] theorem clearErrors_inbox (s : State) : (clearErrors s).inbox = s.inbox := rfl
@[simp] theorem clearErrors_response (s : State) : (clearErrors s).response = s.response := rfl

@[simp] theorem withInbox_params (s : State) (q : List HostEvent) : (withInbox s q).params = s.params := rfl
@[simp] theorem withInbox_curCmd (s : State) (q : List HostEvent) : (withInbox s q).curCmd = s.curCmd := rfl
@[simp] theorem withInbox_busy (s : State) (q : List HostEvent) : (withInbox s q).busy = s.busy := rfl
@[simp] theorem withInbox_done (s : State) (q : List HostEvent) : (withInbox s q).done = s.done := rfl
@[simp] theorem withInbox_err (s : State) (q : List HostEvent) : (withInbox s q).err = s.err := rfl
@[simp] theorem withInbox_cmdOvr (s : State) (q : List HostEvent) : (withInbox s q).cmdOvr = s.cmdOvr := rfl
@[simp] theorem withInbox_rej (s : State) (q : List HostEvent) : (withInbox s q).rej = s.rej := rfl
@[simp] theorem withInbox_wrDrop (s : State) (q : List HostEvent) : (withInbox s q).wrDrop = s.wrDrop := rfl
@[simp] theorem withInbox_seqState (s : State) (q : List HostEvent) : (withInbox s q).seqState = s.seqState := rfl
@[simp] theorem withInbox_errOp (s : State) (q : List HostEvent) : (withInbox s q).errOp = s.errOp := rfl
@[simp] theorem withInbox_errCode (s : State) (q : List HostEvent) : (withInbox s q).errCode = s.errCode := rfl
@[simp] theorem withInbox_doneIe (s : State) (q : List HostEvent) : (withInbox s q).doneIe = s.doneIe := rfl
@[simp] theorem withInbox_errIe (s : State) (q : List HostEvent) : (withInbox s q).errIe = s.errIe := rfl
@[simp] theorem withInbox_cfgWidth (s : State) (q : List HostEvent) : (withInbox s q).cfgWidth = s.cfgWidth := rfl
@[simp] theorem withInbox_cfgHeight (s : State) (q : List HostEvent) : (withInbox s q).cfgHeight = s.cfgHeight := rfl
@[simp] theorem withInbox_actW (s : State) (q : List HostEvent) : (withInbox s q).actW = s.actW := rfl
@[simp] theorem withInbox_actH (s : State) (q : List HostEvent) : (withInbox s q).actH = s.actH := rfl
@[simp] theorem withInbox_nbw (s : State) (q : List HostEvent) : (withInbox s q).nbw = s.nbw := rfl
@[simp] theorem withInbox_nbh (s : State) (q : List HostEvent) : (withInbox s q).nbh = s.nbh := rfl
@[simp] theorem withInbox_cfgValid (s : State) (q : List HostEvent) : (withInbox s q).cfgValid = s.cfgValid := rfl
@[simp] theorem withInbox_roiEn (s : State) (q : List HostEvent) : (withInbox s q).roiEn = s.roiEn := rfl
@[simp] theorem withInbox_epSkip (s : State) (q : List HostEvent) : (withInbox s q).epSkip = s.epSkip := rfl
@[simp] theorem withInbox_frames (s : State) (q : List HostEvent) : (withInbox s q).frames = s.frames := rfl
@[simp] theorem withInbox_roiFrames (s : State) (q : List HostEvent) : (withInbox s q).roiFrames = s.roiFrames := rfl
@[simp] theorem withInbox_nroiFrames (s : State) (q : List HostEvent) : (withInbox s q).nroiFrames = s.nroiFrames := rfl
@[simp] theorem withInbox_storeCount (s : State) (q : List HostEvent) : (withInbox s q).storeCount = s.storeCount := rfl
@[simp] theorem withInbox_frameBlocks (s : State) (q : List HostEvent) : (withInbox s q).frameBlocks = s.frameBlocks := rfl
@[simp] theorem withInbox_frameRoiBlocks (s : State) (q : List HostEvent) : (withInbox s q).frameRoiBlocks = s.frameRoiBlocks := rfl
@[simp] theorem withInbox_valid (s : State) (q : List HostEvent) : (withInbox s q).valid = s.valid := rfl
@[simp] theorem withInbox_mapMin (s : State) (q : List HostEvent) : (withInbox s q).mapMin = s.mapMin := rfl
@[simp] theorem withInbox_mapMax (s : State) (q : List HostEvent) : (withInbox s q).mapMax = s.mapMax := rfl
@[simp] theorem withInbox_mapMinEff (s : State) (q : List HostEvent) : (withInbox s q).mapMinEff = s.mapMinEff := rfl
@[simp] theorem withInbox_mapMaxEff (s : State) (q : List HostEvent) : (withInbox s q).mapMaxEff = s.mapMaxEff := rfl
@[simp] theorem withInbox_mapCount (s : State) (q : List HostEvent) : (withInbox s q).mapCount = s.mapCount := rfl
@[simp] theorem withInbox_resFrame (s : State) (q : List HostEvent) : (withInbox s q).resFrame = s.resFrame := rfl
@[simp] theorem withInbox_resSum (s : State) (q : List HostEvent) : (withInbox s q).resSum = s.resSum := rfl
@[simp] theorem withInbox_resSeq (s : State) (q : List HostEvent) : (withInbox s q).resSeq = s.resSeq := rfl
@[simp] theorem withInbox_resSsd (s : State) (q : List HostEvent) : (withInbox s q).resSsd = s.resSsd := rfl
@[simp] theorem withInbox_mem (s : State) (q : List HostEvent) : (withInbox s q).mem = s.mem := rfl
@[simp] theorem withInbox_resets (s : State) (q : List HostEvent) : (withInbox s q).resets = s.resets := rfl
@[simp] theorem withInbox_draws (s : State) (q : List HostEvent) : (withInbox s q).draws = s.draws := rfl
@[simp] theorem withInbox_inbox (s : State) (q : List HostEvent) : (withInbox s q).inbox = q := rfl
@[simp] theorem withInbox_response (s : State) (q : List HostEvent) : (withInbox s q).response = s.response := rfl

@[simp] theorem memWrite_params (s : State) (sp : Space) (off : Nat) (n : Nat) (v : Nat) : (memWrite s sp off n v).params = s.params := rfl
@[simp] theorem memWrite_curCmd (s : State) (sp : Space) (off : Nat) (n : Nat) (v : Nat) : (memWrite s sp off n v).curCmd = s.curCmd := rfl
@[simp] theorem memWrite_busy (s : State) (sp : Space) (off : Nat) (n : Nat) (v : Nat) : (memWrite s sp off n v).busy = s.busy := rfl
@[simp] theorem memWrite_done (s : State) (sp : Space) (off : Nat) (n : Nat) (v : Nat) : (memWrite s sp off n v).done = s.done := rfl
@[simp] theorem memWrite_err (s : State) (sp : Space) (off : Nat) (n : Nat) (v : Nat) : (memWrite s sp off n v).err = s.err := rfl
@[simp] theorem memWrite_cmdOvr (s : State) (sp : Space) (off : Nat) (n : Nat) (v : Nat) : (memWrite s sp off n v).cmdOvr = s.cmdOvr := rfl
@[simp] theorem memWrite_rej (s : State) (sp : Space) (off : Nat) (n : Nat) (v : Nat) : (memWrite s sp off n v).rej = s.rej := rfl
@[simp] theorem memWrite_wrDrop (s : State) (sp : Space) (off : Nat) (n : Nat) (v : Nat) : (memWrite s sp off n v).wrDrop = s.wrDrop := rfl
@[simp] theorem memWrite_seqState (s : State) (sp : Space) (off : Nat) (n : Nat) (v : Nat) : (memWrite s sp off n v).seqState = s.seqState := rfl
@[simp] theorem memWrite_errOp (s : State) (sp : Space) (off : Nat) (n : Nat) (v : Nat) : (memWrite s sp off n v).errOp = s.errOp := rfl
@[simp] theorem memWrite_errCode (s : State) (sp : Space) (off : Nat) (n : Nat) (v : Nat) : (memWrite s sp off n v).errCode = s.errCode := rfl
@[simp] theorem memWrite_doneIe (s : State) (sp : Space) (off : Nat) (n : Nat) (v : Nat) : (memWrite s sp off n v).doneIe = s.doneIe := rfl
@[simp] theorem memWrite_errIe (s : State) (sp : Space) (off : Nat) (n : Nat) (v : Nat) : (memWrite s sp off n v).errIe = s.errIe := rfl
@[simp] theorem memWrite_cfgWidth (s : State) (sp : Space) (off : Nat) (n : Nat) (v : Nat) : (memWrite s sp off n v).cfgWidth = s.cfgWidth := rfl
@[simp] theorem memWrite_cfgHeight (s : State) (sp : Space) (off : Nat) (n : Nat) (v : Nat) : (memWrite s sp off n v).cfgHeight = s.cfgHeight := rfl
@[simp] theorem memWrite_actW (s : State) (sp : Space) (off : Nat) (n : Nat) (v : Nat) : (memWrite s sp off n v).actW = s.actW := rfl
@[simp] theorem memWrite_actH (s : State) (sp : Space) (off : Nat) (n : Nat) (v : Nat) : (memWrite s sp off n v).actH = s.actH := rfl
@[simp] theorem memWrite_nbw (s : State) (sp : Space) (off : Nat) (n : Nat) (v : Nat) : (memWrite s sp off n v).nbw = s.nbw := rfl
@[simp] theorem memWrite_nbh (s : State) (sp : Space) (off : Nat) (n : Nat) (v : Nat) : (memWrite s sp off n v).nbh = s.nbh := rfl
@[simp] theorem memWrite_cfgValid (s : State) (sp : Space) (off : Nat) (n : Nat) (v : Nat) : (memWrite s sp off n v).cfgValid = s.cfgValid := rfl
@[simp] theorem memWrite_roiEn (s : State) (sp : Space) (off : Nat) (n : Nat) (v : Nat) : (memWrite s sp off n v).roiEn = s.roiEn := rfl
@[simp] theorem memWrite_epSkip (s : State) (sp : Space) (off : Nat) (n : Nat) (v : Nat) : (memWrite s sp off n v).epSkip = s.epSkip := rfl
@[simp] theorem memWrite_frames (s : State) (sp : Space) (off : Nat) (n : Nat) (v : Nat) : (memWrite s sp off n v).frames = s.frames := rfl
@[simp] theorem memWrite_roiFrames (s : State) (sp : Space) (off : Nat) (n : Nat) (v : Nat) : (memWrite s sp off n v).roiFrames = s.roiFrames := rfl
@[simp] theorem memWrite_nroiFrames (s : State) (sp : Space) (off : Nat) (n : Nat) (v : Nat) : (memWrite s sp off n v).nroiFrames = s.nroiFrames := rfl
@[simp] theorem memWrite_storeCount (s : State) (sp : Space) (off : Nat) (n : Nat) (v : Nat) : (memWrite s sp off n v).storeCount = s.storeCount := rfl
@[simp] theorem memWrite_frameBlocks (s : State) (sp : Space) (off : Nat) (n : Nat) (v : Nat) : (memWrite s sp off n v).frameBlocks = s.frameBlocks := rfl
@[simp] theorem memWrite_frameRoiBlocks (s : State) (sp : Space) (off : Nat) (n : Nat) (v : Nat) : (memWrite s sp off n v).frameRoiBlocks = s.frameRoiBlocks := rfl
@[simp] theorem memWrite_valid (s : State) (sp : Space) (off : Nat) (n : Nat) (v : Nat) : (memWrite s sp off n v).valid = s.valid := rfl
@[simp] theorem memWrite_mapMin (s : State) (sp : Space) (off : Nat) (n : Nat) (v : Nat) : (memWrite s sp off n v).mapMin = s.mapMin := rfl
@[simp] theorem memWrite_mapMax (s : State) (sp : Space) (off : Nat) (n : Nat) (v : Nat) : (memWrite s sp off n v).mapMax = s.mapMax := rfl
@[simp] theorem memWrite_mapMinEff (s : State) (sp : Space) (off : Nat) (n : Nat) (v : Nat) : (memWrite s sp off n v).mapMinEff = s.mapMinEff := rfl
@[simp] theorem memWrite_mapMaxEff (s : State) (sp : Space) (off : Nat) (n : Nat) (v : Nat) : (memWrite s sp off n v).mapMaxEff = s.mapMaxEff := rfl
@[simp] theorem memWrite_mapCount (s : State) (sp : Space) (off : Nat) (n : Nat) (v : Nat) : (memWrite s sp off n v).mapCount = s.mapCount := rfl
@[simp] theorem memWrite_resFrame (s : State) (sp : Space) (off : Nat) (n : Nat) (v : Nat) : (memWrite s sp off n v).resFrame = s.resFrame := rfl
@[simp] theorem memWrite_resSum (s : State) (sp : Space) (off : Nat) (n : Nat) (v : Nat) : (memWrite s sp off n v).resSum = s.resSum := rfl
@[simp] theorem memWrite_resSeq (s : State) (sp : Space) (off : Nat) (n : Nat) (v : Nat) : (memWrite s sp off n v).resSeq = s.resSeq := rfl
@[simp] theorem memWrite_resSsd (s : State) (sp : Space) (off : Nat) (n : Nat) (v : Nat) : (memWrite s sp off n v).resSsd = s.resSsd := rfl
@[simp] theorem memWrite_mem (s : State) (sp : Space) (off : Nat) (n : Nat) (v : Nat) : (memWrite s sp off n v).mem = Memory.writeLE s.mem (sp.start + off) n v := rfl
@[simp] theorem memWrite_resets (s : State) (sp : Space) (off : Nat) (n : Nat) (v : Nat) : (memWrite s sp off n v).resets = s.resets := rfl
@[simp] theorem memWrite_draws (s : State) (sp : Space) (off : Nat) (n : Nat) (v : Nat) : (memWrite s sp off n v).draws = s.draws := rfl
@[simp] theorem memWrite_inbox (s : State) (sp : Space) (off : Nat) (n : Nat) (v : Nat) : (memWrite s sp off n v).inbox = s.inbox := rfl
@[simp] theorem memWrite_response (s : State) (sp : Space) (off : Nat) (n : Nat) (v : Nat) : (memWrite s sp off n v).response = s.response := rfl

@[simp] theorem writeStatus_params (s : State) (v : Word) : (writeStatus s v).params = s.params := rfl
@[simp] theorem writeStatus_curCmd (s : State) (v : Word) : (writeStatus s v).curCmd = s.curCmd := rfl
@[simp] theorem writeStatus_busy (s : State) (v : Word) : (writeStatus s v).busy = s.busy := rfl
@[simp] theorem writeStatus_done (s : State) (v : Word) : (writeStatus s v).done = (s.done && !v.getLsbD 1) := rfl
@[simp] theorem writeStatus_err (s : State) (v : Word) : (writeStatus s v).err = s.err := rfl
@[simp] theorem writeStatus_cmdOvr (s : State) (v : Word) : (writeStatus s v).cmdOvr = (s.cmdOvr && !v.getLsbD 3) := rfl
@[simp] theorem writeStatus_rej (s : State) (v : Word) : (writeStatus s v).rej = (s.rej && !v.getLsbD 4) := rfl
@[simp] theorem writeStatus_wrDrop (s : State) (v : Word) : (writeStatus s v).wrDrop = (s.wrDrop && !v.getLsbD 5) := rfl
@[simp] theorem writeStatus_seqState (s : State) (v : Word) : (writeStatus s v).seqState = s.seqState := rfl
@[simp] theorem writeStatus_errOp (s : State) (v : Word) : (writeStatus s v).errOp = s.errOp := rfl
@[simp] theorem writeStatus_errCode (s : State) (v : Word) : (writeStatus s v).errCode = s.errCode := rfl
@[simp] theorem writeStatus_doneIe (s : State) (v : Word) : (writeStatus s v).doneIe = s.doneIe := rfl
@[simp] theorem writeStatus_errIe (s : State) (v : Word) : (writeStatus s v).errIe = s.errIe := rfl
@[simp] theorem writeStatus_cfgWidth (s : State) (v : Word) : (writeStatus s v).cfgWidth = s.cfgWidth := rfl
@[simp] theorem writeStatus_cfgHeight (s : State) (v : Word) : (writeStatus s v).cfgHeight = s.cfgHeight := rfl
@[simp] theorem writeStatus_actW (s : State) (v : Word) : (writeStatus s v).actW = s.actW := rfl
@[simp] theorem writeStatus_actH (s : State) (v : Word) : (writeStatus s v).actH = s.actH := rfl
@[simp] theorem writeStatus_nbw (s : State) (v : Word) : (writeStatus s v).nbw = s.nbw := rfl
@[simp] theorem writeStatus_nbh (s : State) (v : Word) : (writeStatus s v).nbh = s.nbh := rfl
@[simp] theorem writeStatus_cfgValid (s : State) (v : Word) : (writeStatus s v).cfgValid = s.cfgValid := rfl
@[simp] theorem writeStatus_roiEn (s : State) (v : Word) : (writeStatus s v).roiEn = s.roiEn := rfl
@[simp] theorem writeStatus_epSkip (s : State) (v : Word) : (writeStatus s v).epSkip = s.epSkip := rfl
@[simp] theorem writeStatus_frames (s : State) (v : Word) : (writeStatus s v).frames = s.frames := rfl
@[simp] theorem writeStatus_roiFrames (s : State) (v : Word) : (writeStatus s v).roiFrames = s.roiFrames := rfl
@[simp] theorem writeStatus_nroiFrames (s : State) (v : Word) : (writeStatus s v).nroiFrames = s.nroiFrames := rfl
@[simp] theorem writeStatus_storeCount (s : State) (v : Word) : (writeStatus s v).storeCount = s.storeCount := rfl
@[simp] theorem writeStatus_frameBlocks (s : State) (v : Word) : (writeStatus s v).frameBlocks = s.frameBlocks := rfl
@[simp] theorem writeStatus_frameRoiBlocks (s : State) (v : Word) : (writeStatus s v).frameRoiBlocks = s.frameRoiBlocks := rfl
@[simp] theorem writeStatus_valid (s : State) (v : Word) : (writeStatus s v).valid = s.valid := rfl
@[simp] theorem writeStatus_mapMin (s : State) (v : Word) : (writeStatus s v).mapMin = s.mapMin := rfl
@[simp] theorem writeStatus_mapMax (s : State) (v : Word) : (writeStatus s v).mapMax = s.mapMax := rfl
@[simp] theorem writeStatus_mapMinEff (s : State) (v : Word) : (writeStatus s v).mapMinEff = s.mapMinEff := rfl
@[simp] theorem writeStatus_mapMaxEff (s : State) (v : Word) : (writeStatus s v).mapMaxEff = s.mapMaxEff := rfl
@[simp] theorem writeStatus_mapCount (s : State) (v : Word) : (writeStatus s v).mapCount = s.mapCount := rfl
@[simp] theorem writeStatus_resFrame (s : State) (v : Word) : (writeStatus s v).resFrame = s.resFrame := rfl
@[simp] theorem writeStatus_resSum (s : State) (v : Word) : (writeStatus s v).resSum = s.resSum := rfl
@[simp] theorem writeStatus_resSeq (s : State) (v : Word) : (writeStatus s v).resSeq = s.resSeq := rfl
@[simp] theorem writeStatus_resSsd (s : State) (v : Word) : (writeStatus s v).resSsd = s.resSsd := rfl
@[simp] theorem writeStatus_mem (s : State) (v : Word) : (writeStatus s v).mem = s.mem := rfl
@[simp] theorem writeStatus_resets (s : State) (v : Word) : (writeStatus s v).resets = s.resets := rfl
@[simp] theorem writeStatus_draws (s : State) (v : Word) : (writeStatus s v).draws = s.draws := rfl
@[simp] theorem writeStatus_inbox (s : State) (v : Word) : (writeStatus s v).inbox = s.inbox := rfl
@[simp] theorem writeStatus_response (s : State) (v : Word) : (writeStatus s v).response = s.response := rfl

@[simp] theorem writeIrqEn_params (s : State) (v : Word) : (writeIrqEn s v).params = s.params := rfl
@[simp] theorem writeIrqEn_curCmd (s : State) (v : Word) : (writeIrqEn s v).curCmd = s.curCmd := rfl
@[simp] theorem writeIrqEn_busy (s : State) (v : Word) : (writeIrqEn s v).busy = s.busy := rfl
@[simp] theorem writeIrqEn_done (s : State) (v : Word) : (writeIrqEn s v).done = s.done := rfl
@[simp] theorem writeIrqEn_err (s : State) (v : Word) : (writeIrqEn s v).err = s.err := rfl
@[simp] theorem writeIrqEn_cmdOvr (s : State) (v : Word) : (writeIrqEn s v).cmdOvr = s.cmdOvr := rfl
@[simp] theorem writeIrqEn_rej (s : State) (v : Word) : (writeIrqEn s v).rej = s.rej := rfl
@[simp] theorem writeIrqEn_wrDrop (s : State) (v : Word) : (writeIrqEn s v).wrDrop = s.wrDrop := rfl
@[simp] theorem writeIrqEn_seqState (s : State) (v : Word) : (writeIrqEn s v).seqState = s.seqState := rfl
@[simp] theorem writeIrqEn_errOp (s : State) (v : Word) : (writeIrqEn s v).errOp = s.errOp := rfl
@[simp] theorem writeIrqEn_errCode (s : State) (v : Word) : (writeIrqEn s v).errCode = s.errCode := rfl
@[simp] theorem writeIrqEn_doneIe (s : State) (v : Word) : (writeIrqEn s v).doneIe = v.getLsbD 0 := rfl
@[simp] theorem writeIrqEn_errIe (s : State) (v : Word) : (writeIrqEn s v).errIe = v.getLsbD 1 := rfl
@[simp] theorem writeIrqEn_cfgWidth (s : State) (v : Word) : (writeIrqEn s v).cfgWidth = s.cfgWidth := rfl
@[simp] theorem writeIrqEn_cfgHeight (s : State) (v : Word) : (writeIrqEn s v).cfgHeight = s.cfgHeight := rfl
@[simp] theorem writeIrqEn_actW (s : State) (v : Word) : (writeIrqEn s v).actW = s.actW := rfl
@[simp] theorem writeIrqEn_actH (s : State) (v : Word) : (writeIrqEn s v).actH = s.actH := rfl
@[simp] theorem writeIrqEn_nbw (s : State) (v : Word) : (writeIrqEn s v).nbw = s.nbw := rfl
@[simp] theorem writeIrqEn_nbh (s : State) (v : Word) : (writeIrqEn s v).nbh = s.nbh := rfl
@[simp] theorem writeIrqEn_cfgValid (s : State) (v : Word) : (writeIrqEn s v).cfgValid = s.cfgValid := rfl
@[simp] theorem writeIrqEn_roiEn (s : State) (v : Word) : (writeIrqEn s v).roiEn = s.roiEn := rfl
@[simp] theorem writeIrqEn_epSkip (s : State) (v : Word) : (writeIrqEn s v).epSkip = s.epSkip := rfl
@[simp] theorem writeIrqEn_frames (s : State) (v : Word) : (writeIrqEn s v).frames = s.frames := rfl
@[simp] theorem writeIrqEn_roiFrames (s : State) (v : Word) : (writeIrqEn s v).roiFrames = s.roiFrames := rfl
@[simp] theorem writeIrqEn_nroiFrames (s : State) (v : Word) : (writeIrqEn s v).nroiFrames = s.nroiFrames := rfl
@[simp] theorem writeIrqEn_storeCount (s : State) (v : Word) : (writeIrqEn s v).storeCount = s.storeCount := rfl
@[simp] theorem writeIrqEn_frameBlocks (s : State) (v : Word) : (writeIrqEn s v).frameBlocks = s.frameBlocks := rfl
@[simp] theorem writeIrqEn_frameRoiBlocks (s : State) (v : Word) : (writeIrqEn s v).frameRoiBlocks = s.frameRoiBlocks := rfl
@[simp] theorem writeIrqEn_valid (s : State) (v : Word) : (writeIrqEn s v).valid = s.valid := rfl
@[simp] theorem writeIrqEn_mapMin (s : State) (v : Word) : (writeIrqEn s v).mapMin = s.mapMin := rfl
@[simp] theorem writeIrqEn_mapMax (s : State) (v : Word) : (writeIrqEn s v).mapMax = s.mapMax := rfl
@[simp] theorem writeIrqEn_mapMinEff (s : State) (v : Word) : (writeIrqEn s v).mapMinEff = s.mapMinEff := rfl
@[simp] theorem writeIrqEn_mapMaxEff (s : State) (v : Word) : (writeIrqEn s v).mapMaxEff = s.mapMaxEff := rfl
@[simp] theorem writeIrqEn_mapCount (s : State) (v : Word) : (writeIrqEn s v).mapCount = s.mapCount := rfl
@[simp] theorem writeIrqEn_resFrame (s : State) (v : Word) : (writeIrqEn s v).resFrame = s.resFrame := rfl
@[simp] theorem writeIrqEn_resSum (s : State) (v : Word) : (writeIrqEn s v).resSum = s.resSum := rfl
@[simp] theorem writeIrqEn_resSeq (s : State) (v : Word) : (writeIrqEn s v).resSeq = s.resSeq := rfl
@[simp] theorem writeIrqEn_resSsd (s : State) (v : Word) : (writeIrqEn s v).resSsd = s.resSsd := rfl
@[simp] theorem writeIrqEn_mem (s : State) (v : Word) : (writeIrqEn s v).mem = s.mem := rfl
@[simp] theorem writeIrqEn_resets (s : State) (v : Word) : (writeIrqEn s v).resets = s.resets := rfl
@[simp] theorem writeIrqEn_draws (s : State) (v : Word) : (writeIrqEn s v).draws = s.draws := rfl
@[simp] theorem writeIrqEn_inbox (s : State) (v : Word) : (writeIrqEn s v).inbox = s.inbox := rfl
@[simp] theorem writeIrqEn_response (s : State) (v : Word) : (writeIrqEn s v).response = s.response := rfl

@[simp] theorem resetRegisters_params (s : State) : (resetRegisters s).params = s.params := rfl
@[simp] theorem resetRegisters_curCmd (s : State) : (resetRegisters s).curCmd = 0 := rfl
@[simp] theorem resetRegisters_busy (s : State) : (resetRegisters s).busy = false := rfl
@[simp] theorem resetRegisters_done (s : State) : (resetRegisters s).done = false := rfl
@[simp] theorem resetRegisters_err (s : State) : (resetRegisters s).err = false := rfl
@[simp] theorem resetRegisters_cmdOvr (s : State) : (resetRegisters s).cmdOvr = false := rfl
@[simp] theorem resetRegisters_rej (s : State) : (resetRegisters s).rej = false := rfl
@[simp] theorem resetRegisters_wrDrop (s : State) : (resetRegisters s).wrDrop = false := rfl
@[simp] theorem resetRegisters_seqState (s : State) : (resetRegisters s).seqState = .idle := rfl
@[simp] theorem resetRegisters_errOp (s : State) : (resetRegisters s).errOp = 0 := rfl
@[simp] theorem resetRegisters_errCode (s : State) : (resetRegisters s).errCode = .noError := rfl
@[simp] theorem resetRegisters_doneIe (s : State) : (resetRegisters s).doneIe = false := rfl
@[simp] theorem resetRegisters_errIe (s : State) : (resetRegisters s).errIe = false := rfl
@[simp] theorem resetRegisters_cfgWidth (s : State) : (resetRegisters s).cfgWidth = 0 := rfl
@[simp] theorem resetRegisters_cfgHeight (s : State) : (resetRegisters s).cfgHeight = 0 := rfl
@[simp] theorem resetRegisters_actW (s : State) : (resetRegisters s).actW = 0 := rfl
@[simp] theorem resetRegisters_actH (s : State) : (resetRegisters s).actH = 0 := rfl
@[simp] theorem resetRegisters_nbw (s : State) : (resetRegisters s).nbw = 0 := rfl
@[simp] theorem resetRegisters_nbh (s : State) : (resetRegisters s).nbh = 0 := rfl
@[simp] theorem resetRegisters_cfgValid (s : State) : (resetRegisters s).cfgValid = false := rfl
@[simp] theorem resetRegisters_roiEn (s : State) : (resetRegisters s).roiEn = false := rfl
@[simp] theorem resetRegisters_epSkip (s : State) : (resetRegisters s).epSkip = false := rfl
@[simp] theorem resetRegisters_frames (s : State) : (resetRegisters s).frames = 0 := rfl
@[simp] theorem resetRegisters_roiFrames (s : State) : (resetRegisters s).roiFrames = 0 := rfl
@[simp] theorem resetRegisters_nroiFrames (s : State) : (resetRegisters s).nroiFrames = 0 := rfl
@[simp] theorem resetRegisters_storeCount (s : State) : (resetRegisters s).storeCount = 0 := rfl
@[simp] theorem resetRegisters_frameBlocks (s : State) : (resetRegisters s).frameBlocks = 0 := rfl
@[simp] theorem resetRegisters_frameRoiBlocks (s : State) : (resetRegisters s).frameRoiBlocks = 0 := rfl
@[simp] theorem resetRegisters_valid (s : State) : (resetRegisters s).valid = {} := rfl
@[simp] theorem resetRegisters_mapMin (s : State) : (resetRegisters s).mapMin = 0 := rfl
@[simp] theorem resetRegisters_mapMax (s : State) : (resetRegisters s).mapMax = 0 := rfl
@[simp] theorem resetRegisters_mapMinEff (s : State) : (resetRegisters s).mapMinEff = 0 := rfl
@[simp] theorem resetRegisters_mapMaxEff (s : State) : (resetRegisters s).mapMaxEff = 0 := rfl
@[simp] theorem resetRegisters_mapCount (s : State) : (resetRegisters s).mapCount = 0 := rfl
@[simp] theorem resetRegisters_resFrame (s : State) : (resetRegisters s).resFrame = ⟨{}, {}, {}⟩ := rfl
@[simp] theorem resetRegisters_resSum (s : State) : (resetRegisters s).resSum = ⟨{}, {}, {}⟩ := rfl
@[simp] theorem resetRegisters_resSeq (s : State) : (resetRegisters s).resSeq = ⟨{}, {}, {}⟩ := rfl
@[simp] theorem resetRegisters_resSsd (s : State) : (resetRegisters s).resSsd = ⟨{}, {}, {}⟩ := rfl
@[simp] theorem resetRegisters_mem (s : State) : (resetRegisters s).mem = s.mem := rfl
@[simp] theorem resetRegisters_resets (s : State) : (resetRegisters s).resets = s.resets := rfl
@[simp] theorem resetRegisters_draws (s : State) : (resetRegisters s).draws = s.draws := rfl
@[simp] theorem resetRegisters_inbox (s : State) : (resetRegisters s).inbox = s.inbox := rfl
@[simp] theorem resetRegisters_response (s : State) : (resetRegisters s).response = s.response := rfl

@[simp] theorem hardReset_params (s : State) : (hardReset s).params = s.params := rfl
@[simp] theorem hardReset_curCmd (s : State) : (hardReset s).curCmd = 0 := rfl
@[simp] theorem hardReset_busy (s : State) : (hardReset s).busy = false := rfl
@[simp] theorem hardReset_done (s : State) : (hardReset s).done = false := rfl
@[simp] theorem hardReset_err (s : State) : (hardReset s).err = false := rfl
@[simp] theorem hardReset_cmdOvr (s : State) : (hardReset s).cmdOvr = false := rfl
@[simp] theorem hardReset_rej (s : State) : (hardReset s).rej = false := rfl
@[simp] theorem hardReset_wrDrop (s : State) : (hardReset s).wrDrop = false := rfl
@[simp] theorem hardReset_seqState (s : State) : (hardReset s).seqState = .idle := rfl
@[simp] theorem hardReset_errOp (s : State) : (hardReset s).errOp = 0 := rfl
@[simp] theorem hardReset_errCode (s : State) : (hardReset s).errCode = .noError := rfl
@[simp] theorem hardReset_doneIe (s : State) : (hardReset s).doneIe = false := rfl
@[simp] theorem hardReset_errIe (s : State) : (hardReset s).errIe = false := rfl
@[simp] theorem hardReset_cfgWidth (s : State) : (hardReset s).cfgWidth = 0 := rfl
@[simp] theorem hardReset_cfgHeight (s : State) : (hardReset s).cfgHeight = 0 := rfl
@[simp] theorem hardReset_actW (s : State) : (hardReset s).actW = 0 := rfl
@[simp] theorem hardReset_actH (s : State) : (hardReset s).actH = 0 := rfl
@[simp] theorem hardReset_nbw (s : State) : (hardReset s).nbw = 0 := rfl
@[simp] theorem hardReset_nbh (s : State) : (hardReset s).nbh = 0 := rfl
@[simp] theorem hardReset_cfgValid (s : State) : (hardReset s).cfgValid = false := rfl
@[simp] theorem hardReset_roiEn (s : State) : (hardReset s).roiEn = false := rfl
@[simp] theorem hardReset_epSkip (s : State) : (hardReset s).epSkip = false := rfl
@[simp] theorem hardReset_frames (s : State) : (hardReset s).frames = 0 := rfl
@[simp] theorem hardReset_roiFrames (s : State) : (hardReset s).roiFrames = 0 := rfl
@[simp] theorem hardReset_nroiFrames (s : State) : (hardReset s).nroiFrames = 0 := rfl
@[simp] theorem hardReset_storeCount (s : State) : (hardReset s).storeCount = 0 := rfl
@[simp] theorem hardReset_frameBlocks (s : State) : (hardReset s).frameBlocks = 0 := rfl
@[simp] theorem hardReset_frameRoiBlocks (s : State) : (hardReset s).frameRoiBlocks = 0 := rfl
@[simp] theorem hardReset_valid (s : State) : (hardReset s).valid = {} := rfl
@[simp] theorem hardReset_mapMin (s : State) : (hardReset s).mapMin = 0 := rfl
@[simp] theorem hardReset_mapMax (s : State) : (hardReset s).mapMax = 0 := rfl
@[simp] theorem hardReset_mapMinEff (s : State) : (hardReset s).mapMinEff = 0 := rfl
@[simp] theorem hardReset_mapMaxEff (s : State) : (hardReset s).mapMaxEff = 0 := rfl
@[simp] theorem hardReset_mapCount (s : State) : (hardReset s).mapCount = 0 := rfl
@[simp] theorem hardReset_resFrame (s : State) : (hardReset s).resFrame = ⟨{}, {}, {}⟩ := rfl
@[simp] theorem hardReset_resSum (s : State) : (hardReset s).resSum = ⟨{}, {}, {}⟩ := rfl
@[simp] theorem hardReset_resSeq (s : State) : (hardReset s).resSeq = ⟨{}, {}, {}⟩ := rfl
@[simp] theorem hardReset_resSsd (s : State) : (hardReset s).resSsd = ⟨{}, {}, {}⟩ := rfl
@[simp] theorem hardReset_mem (s : State) : (hardReset s).mem = [] := rfl
@[simp] theorem hardReset_resets (s : State) : (hardReset s).resets = s.resets + 1 := rfl
@[simp] theorem hardReset_draws (s : State) : (hardReset s).draws = s.draws := rfl
@[simp] theorem hardReset_inbox (s : State) : (hardReset s).inbox = s.inbox := rfl
@[simp] theorem hardReset_response (s : State) : (hardReset s).response = none := rfl

end Sys2Proof.Machine
end

