-- ==== Sys2Proof/Laws/Commits.lean ====
section
/-! SUPPORT. What the commands' commits do to each field: one lemma per field per update. -/

namespace Sys2Proof.Machine

@[simp] theorem latchConfig_params (s : State) (r : Bool) (e : Bool) : (latchConfig s r e).params = s.params := rfl
@[simp] theorem latchConfig_curCmd (s : State) (r : Bool) (e : Bool) : (latchConfig s r e).curCmd = s.curCmd := rfl
@[simp] theorem latchConfig_busy (s : State) (r : Bool) (e : Bool) : (latchConfig s r e).busy = s.busy := rfl
@[simp] theorem latchConfig_done (s : State) (r : Bool) (e : Bool) : (latchConfig s r e).done = s.done := rfl
@[simp] theorem latchConfig_err (s : State) (r : Bool) (e : Bool) : (latchConfig s r e).err = s.err := rfl
@[simp] theorem latchConfig_cmdOvr (s : State) (r : Bool) (e : Bool) : (latchConfig s r e).cmdOvr = s.cmdOvr := rfl
@[simp] theorem latchConfig_rej (s : State) (r : Bool) (e : Bool) : (latchConfig s r e).rej = s.rej := rfl
@[simp] theorem latchConfig_wrDrop (s : State) (r : Bool) (e : Bool) : (latchConfig s r e).wrDrop = s.wrDrop := rfl
@[simp] theorem latchConfig_seqState (s : State) (r : Bool) (e : Bool) : (latchConfig s r e).seqState = s.seqState := rfl
@[simp] theorem latchConfig_errOp (s : State) (r : Bool) (e : Bool) : (latchConfig s r e).errOp = s.errOp := rfl
@[simp] theorem latchConfig_errCode (s : State) (r : Bool) (e : Bool) : (latchConfig s r e).errCode = s.errCode := rfl
@[simp] theorem latchConfig_doneIe (s : State) (r : Bool) (e : Bool) : (latchConfig s r e).doneIe = s.doneIe := rfl
@[simp] theorem latchConfig_errIe (s : State) (r : Bool) (e : Bool) : (latchConfig s r e).errIe = s.errIe := rfl
@[simp] theorem latchConfig_cfgWidth (s : State) (r : Bool) (e : Bool) : (latchConfig s r e).cfgWidth = s.cfgWidth := rfl
@[simp] theorem latchConfig_cfgHeight (s : State) (r : Bool) (e : Bool) : (latchConfig s r e).cfgHeight = s.cfgHeight := rfl
@[simp] theorem latchConfig_actW (s : State) (r : Bool) (e : Bool) : (latchConfig s r e).actW = s.cfgWidth := rfl
@[simp] theorem latchConfig_actH (s : State) (r : Bool) (e : Bool) : (latchConfig s r e).actH = s.cfgHeight := rfl
@[simp] theorem latchConfig_nbw (s : State) (r : Bool) (e : Bool) : (latchConfig s r e).nbw = BitVec.ofNat 16 (s.cfgWidth.toNat / 16) := rfl
@[simp] theorem latchConfig_nbh (s : State) (r : Bool) (e : Bool) : (latchConfig s r e).nbh = BitVec.ofNat 16 (s.cfgHeight.toNat / 16) := rfl
@[simp] theorem latchConfig_cfgValid (s : State) (r : Bool) (e : Bool) : (latchConfig s r e).cfgValid = true := rfl
@[simp] theorem latchConfig_roiEn (s : State) (r : Bool) (e : Bool) : (latchConfig s r e).roiEn = r := rfl
@[simp] theorem latchConfig_epSkip (s : State) (r : Bool) (e : Bool) : (latchConfig s r e).epSkip = e := rfl
@[simp] theorem latchConfig_frames (s : State) (r : Bool) (e : Bool) : (latchConfig s r e).frames = s.frames := rfl
@[simp] theorem latchConfig_roiFrames (s : State) (r : Bool) (e : Bool) : (latchConfig s r e).roiFrames = s.roiFrames := rfl
@[simp] theorem latchConfig_nroiFrames (s : State) (r : Bool) (e : Bool) : (latchConfig s r e).nroiFrames = s.nroiFrames := rfl
@[simp] theorem latchConfig_storeCount (s : State) (r : Bool) (e : Bool) : (latchConfig s r e).storeCount = s.storeCount := rfl
@[simp] theorem latchConfig_frameBlocks (s : State) (r : Bool) (e : Bool) : (latchConfig s r e).frameBlocks = s.frameBlocks := rfl
@[simp] theorem latchConfig_frameRoiBlocks (s : State) (r : Bool) (e : Bool) : (latchConfig s r e).frameRoiBlocks = s.frameRoiBlocks := rfl
@[simp] theorem latchConfig_valid (s : State) (r : Bool) (e : Bool) : (latchConfig s r e).valid = s.valid := rfl
@[simp] theorem latchConfig_mapMin (s : State) (r : Bool) (e : Bool) : (latchConfig s r e).mapMin = s.mapMin := rfl
@[simp] theorem latchConfig_mapMax (s : State) (r : Bool) (e : Bool) : (latchConfig s r e).mapMax = s.mapMax := rfl
@[simp] theorem latchConfig_mapMinEff (s : State) (r : Bool) (e : Bool) : (latchConfig s r e).mapMinEff = s.mapMinEff := rfl
@[simp] theorem latchConfig_mapMaxEff (s : State) (r : Bool) (e : Bool) : (latchConfig s r e).mapMaxEff = s.mapMaxEff := rfl
@[simp] theorem latchConfig_mapCount (s : State) (r : Bool) (e : Bool) : (latchConfig s r e).mapCount = s.mapCount := rfl
@[simp] theorem latchConfig_resFrame (s : State) (r : Bool) (e : Bool) : (latchConfig s r e).resFrame = s.resFrame := rfl
@[simp] theorem latchConfig_resSum (s : State) (r : Bool) (e : Bool) : (latchConfig s r e).resSum = s.resSum := rfl
@[simp] theorem latchConfig_resSeq (s : State) (r : Bool) (e : Bool) : (latchConfig s r e).resSeq = s.resSeq := rfl
@[simp] theorem latchConfig_resSsd (s : State) (r : Bool) (e : Bool) : (latchConfig s r e).resSsd = s.resSsd := rfl
@[simp] theorem latchConfig_mem (s : State) (r : Bool) (e : Bool) : (latchConfig s r e).mem = s.mem := rfl
@[simp] theorem latchConfig_resets (s : State) (r : Bool) (e : Bool) : (latchConfig s r e).resets = s.resets := rfl
@[simp] theorem latchConfig_draws (s : State) (r : Bool) (e : Bool) : (latchConfig s r e).draws = s.draws := rfl
@[simp] theorem latchConfig_inbox (s : State) (r : Bool) (e : Bool) : (latchConfig s r e).inbox = s.inbox := rfl
@[simp] theorem latchConfig_response (s : State) (r : Bool) (e : Bool) : (latchConfig s r e).response = s.response := rfl

@[simp] theorem openSequence_params (s : State) : (openSequence s).params = s.params := rfl
@[simp] theorem openSequence_curCmd (s : State) : (openSequence s).curCmd = s.curCmd := rfl
@[simp] theorem openSequence_busy (s : State) : (openSequence s).busy = s.busy := rfl
@[simp] theorem openSequence_done (s : State) : (openSequence s).done = s.done := rfl
@[simp] theorem openSequence_err (s : State) : (openSequence s).err = s.err := rfl
@[simp] theorem openSequence_cmdOvr (s : State) : (openSequence s).cmdOvr = s.cmdOvr := rfl
@[simp] theorem openSequence_rej (s : State) : (openSequence s).rej = s.rej := rfl
@[simp] theorem openSequence_wrDrop (s : State) : (openSequence s).wrDrop = s.wrDrop := rfl
@[simp] theorem openSequence_seqState (s : State) : (openSequence s).seqState = .opened := rfl
@[simp] theorem openSequence_errOp (s : State) : (openSequence s).errOp = s.errOp := rfl
@[simp] theorem openSequence_errCode (s : State) : (openSequence s).errCode = s.errCode := rfl
@[simp] theorem openSequence_doneIe (s : State) : (openSequence s).doneIe = s.doneIe := rfl
@[simp] theorem openSequence_errIe (s : State) : (openSequence s).errIe = s.errIe := rfl
@[simp] theorem openSequence_cfgWidth (s : State) : (openSequence s).cfgWidth = s.cfgWidth := rfl
@[simp] theorem openSequence_cfgHeight (s : State) : (openSequence s).cfgHeight = s.cfgHeight := rfl
@[simp] theorem openSequence_actW (s : State) : (openSequence s).actW = s.actW := rfl
@[simp] theorem openSequence_actH (s : State) : (openSequence s).actH = s.actH := rfl
@[simp] theorem openSequence_nbw (s : State) : (openSequence s).nbw = s.nbw := rfl
@[simp] theorem openSequence_nbh (s : State) : (openSequence s).nbh = s.nbh := rfl
@[simp] theorem openSequence_cfgValid (s : State) : (openSequence s).cfgValid = s.cfgValid := rfl
@[simp] theorem openSequence_roiEn (s : State) : (openSequence s).roiEn = s.roiEn := rfl
@[simp] theorem openSequence_epSkip (s : State) : (openSequence s).epSkip = s.epSkip := rfl
@[simp] theorem openSequence_frames (s : State) : (openSequence s).frames = 0 := rfl
@[simp] theorem openSequence_roiFrames (s : State) : (openSequence s).roiFrames = 0 := rfl
@[simp] theorem openSequence_nroiFrames (s : State) : (openSequence s).nroiFrames = 0 := rfl
@[simp] theorem openSequence_storeCount (s : State) : (openSequence s).storeCount = 0 := rfl
@[simp] theorem openSequence_frameBlocks (s : State) : (openSequence s).frameBlocks = 0 := rfl
@[simp] theorem openSequence_frameRoiBlocks (s : State) : (openSequence s).frameRoiBlocks = 0 := rfl
@[simp] theorem openSequence_valid (s : State) : (openSequence s).valid = {} := rfl
@[simp] theorem openSequence_mapMin (s : State) : (openSequence s).mapMin = s.mapMin := rfl
@[simp] theorem openSequence_mapMax (s : State) : (openSequence s).mapMax = s.mapMax := rfl
@[simp] theorem openSequence_mapMinEff (s : State) : (openSequence s).mapMinEff = 0 := rfl
@[simp] theorem openSequence_mapMaxEff (s : State) : (openSequence s).mapMaxEff = 0 := rfl
@[simp] theorem openSequence_mapCount (s : State) : (openSequence s).mapCount = 0 := rfl
@[simp] theorem openSequence_resFrame (s : State) : (openSequence s).resFrame = ⟨{}, {}, {}⟩ := rfl
@[simp] theorem openSequence_resSum (s : State) : (openSequence s).resSum = ⟨{}, {}, {}⟩ := rfl
@[simp] theorem openSequence_resSeq (s : State) : (openSequence s).resSeq = ⟨{}, {}, {}⟩ := rfl
@[simp] theorem openSequence_resSsd (s : State) : (openSequence s).resSsd = ⟨{}, {}, {}⟩ := rfl
@[simp] theorem openSequence_mem (s : State) : (openSequence s).mem = s.mem := rfl
@[simp] theorem openSequence_resets (s : State) : (openSequence s).resets = s.resets := rfl
@[simp] theorem openSequence_draws (s : State) : (openSequence s).draws = s.draws := rfl
@[simp] theorem openSequence_inbox (s : State) : (openSequence s).inbox = s.inbox := rfl
@[simp] theorem openSequence_response (s : State) : (openSequence s).response = s.response := rfl

@[simp] theorem commitFrame_params (s : State) : (commitFrame s).params = s.params := rfl
@[simp] theorem commitFrame_curCmd (s : State) : (commitFrame s).curCmd = s.curCmd := rfl
@[simp] theorem commitFrame_busy (s : State) : (commitFrame s).busy = s.busy := rfl
@[simp] theorem commitFrame_done (s : State) : (commitFrame s).done = s.done := rfl
@[simp] theorem commitFrame_err (s : State) : (commitFrame s).err = s.err := rfl
@[simp] theorem commitFrame_cmdOvr (s : State) : (commitFrame s).cmdOvr = s.cmdOvr := rfl
@[simp] theorem commitFrame_rej (s : State) : (commitFrame s).rej = s.rej := rfl
@[simp] theorem commitFrame_wrDrop (s : State) : (commitFrame s).wrDrop = s.wrDrop := rfl
@[simp] theorem commitFrame_seqState (s : State) : (commitFrame s).seqState = s.seqState := rfl
@[simp] theorem commitFrame_errOp (s : State) : (commitFrame s).errOp = s.errOp := rfl
@[simp] theorem commitFrame_errCode (s : State) : (commitFrame s).errCode = s.errCode := rfl
@[simp] theorem commitFrame_doneIe (s : State) : (commitFrame s).doneIe = s.doneIe := rfl
@[simp] theorem commitFrame_errIe (s : State) : (commitFrame s).errIe = s.errIe := rfl
@[simp] theorem commitFrame_cfgWidth (s : State) : (commitFrame s).cfgWidth = s.cfgWidth := rfl
@[simp] theorem commitFrame_cfgHeight (s : State) : (commitFrame s).cfgHeight = s.cfgHeight := rfl
@[simp] theorem commitFrame_actW (s : State) : (commitFrame s).actW = s.actW := rfl
@[simp] theorem commitFrame_actH (s : State) : (commitFrame s).actH = s.actH := rfl
@[simp] theorem commitFrame_nbw (s : State) : (commitFrame s).nbw = s.nbw := rfl
@[simp] theorem commitFrame_nbh (s : State) : (commitFrame s).nbh = s.nbh := rfl
@[simp] theorem commitFrame_cfgValid (s : State) : (commitFrame s).cfgValid = s.cfgValid := rfl
@[simp] theorem commitFrame_roiEn (s : State) : (commitFrame s).roiEn = s.roiEn := rfl
@[simp] theorem commitFrame_epSkip (s : State) : (commitFrame s).epSkip = s.epSkip := rfl
@[simp] theorem commitFrame_frames (s : State) : (commitFrame s).frames = s.frames + 1#32 := rfl
@[simp] theorem commitFrame_roiFrames (s : State) : (commitFrame s).roiFrames = countIf (roiValid s) s.roiFrames := rfl
@[simp] theorem commitFrame_nroiFrames (s : State) : (commitFrame s).nroiFrames = countIf (nroiValid s) s.nroiFrames := rfl
@[simp] theorem commitFrame_storeCount (s : State) : (commitFrame s).storeCount = s.storeCount + BitVec.ofNat 32 (frameBlockCount s) := rfl
@[simp] theorem commitFrame_frameBlocks (s : State) : (commitFrame s).frameBlocks = BitVec.ofNat 32 (frameBlockCount s) := rfl
@[simp] theorem commitFrame_frameRoiBlocks (s : State) : (commitFrame s).frameRoiBlocks = BitVec.ofNat 32 (roiBlockCount s) := rfl
@[simp] theorem commitFrame_valid (s : State) : (commitFrame s).valid = { s.valid with frameAll := true, frameRoi := roiValid s, frameNroi := nroiValid s } := rfl
@[simp] theorem commitFrame_mapMin (s : State) : (commitFrame s).mapMin = s.mapMin := rfl
@[simp] theorem commitFrame_mapMax (s : State) : (commitFrame s).mapMax = s.mapMax := rfl
@[simp] theorem commitFrame_mapMinEff (s : State) : (commitFrame s).mapMinEff = s.mapMinEff := rfl
@[simp] theorem commitFrame_mapMaxEff (s : State) : (commitFrame s).mapMaxEff = s.mapMaxEff := rfl
@[simp] theorem commitFrame_mapCount (s : State) : (commitFrame s).mapCount = s.mapCount := rfl
@[simp] theorem commitFrame_resFrame (s : State) : (commitFrame s).resFrame = frameResults s := rfl
@[simp] theorem commitFrame_resSum (s : State) : (commitFrame s).resSum = sumResults s := rfl
@[simp] theorem commitFrame_resSeq (s : State) : (commitFrame s).resSeq = s.resSeq := rfl
@[simp] theorem commitFrame_resSsd (s : State) : (commitFrame s).resSsd = ssdResults s := rfl
@[simp] theorem commitFrame_mem (s : State) : (commitFrame s).mem = Memory.writeEntries s.mem (Space.store.start + 4 * s.storeCount.toNat) (lumaSsds s) := rfl
@[simp] theorem commitFrame_resets (s : State) : (commitFrame s).resets = s.resets := rfl
@[simp] theorem commitFrame_draws (s : State) : (commitFrame s).draws = s.draws := rfl
@[simp] theorem commitFrame_inbox (s : State) : (commitFrame s).inbox = s.inbox := rfl
@[simp] theorem commitFrame_response (s : State) : (commitFrame s).response = s.response := rfl

@[simp] theorem closeSequence_params (s : State) : (closeSequence s).params = s.params := rfl
@[simp] theorem closeSequence_curCmd (s : State) : (closeSequence s).curCmd = s.curCmd := rfl
@[simp] theorem closeSequence_busy (s : State) : (closeSequence s).busy = s.busy := rfl
@[simp] theorem closeSequence_done (s : State) : (closeSequence s).done = s.done := rfl
@[simp] theorem closeSequence_err (s : State) : (closeSequence s).err = s.err := rfl
@[simp] theorem closeSequence_cmdOvr (s : State) : (closeSequence s).cmdOvr = s.cmdOvr := rfl
@[simp] theorem closeSequence_rej (s : State) : (closeSequence s).rej = s.rej := rfl
@[simp] theorem closeSequence_wrDrop (s : State) : (closeSequence s).wrDrop = s.wrDrop := rfl
@[simp] theorem closeSequence_seqState (s : State) : (closeSequence s).seqState = .closed := rfl
@[simp] theorem closeSequence_errOp (s : State) : (closeSequence s).errOp = s.errOp := rfl
@[simp] theorem closeSequence_errCode (s : State) : (closeSequence s).errCode = s.errCode := rfl
@[simp] theorem closeSequence_doneIe (s : State) : (closeSequence s).doneIe = s.doneIe := rfl
@[simp] theorem closeSequence_errIe (s : State) : (closeSequence s).errIe = s.errIe := rfl
@[simp] theorem closeSequence_cfgWidth (s : State) : (closeSequence s).cfgWidth = s.cfgWidth := rfl
@[simp] theorem closeSequence_cfgHeight (s : State) : (closeSequence s).cfgHeight = s.cfgHeight := rfl
@[simp] theorem closeSequence_actW (s : State) : (closeSequence s).actW = s.actW := rfl
@[simp] theorem closeSequence_actH (s : State) : (closeSequence s).actH = s.actH := rfl
@[simp] theorem closeSequence_nbw (s : State) : (closeSequence s).nbw = s.nbw := rfl
@[simp] theorem closeSequence_nbh (s : State) : (closeSequence s).nbh = s.nbh := rfl
@[simp] theorem closeSequence_cfgValid (s : State) : (closeSequence s).cfgValid = s.cfgValid := rfl
@[simp] theorem closeSequence_roiEn (s : State) : (closeSequence s).roiEn = s.roiEn := rfl
@[simp] theorem closeSequence_epSkip (s : State) : (closeSequence s).epSkip = s.epSkip := rfl
@[simp] theorem closeSequence_frames (s : State) : (closeSequence s).frames = s.frames := rfl
@[simp] theorem closeSequence_roiFrames (s : State) : (closeSequence s).roiFrames = s.roiFrames := rfl
@[simp] theorem closeSequence_nroiFrames (s : State) : (closeSequence s).nroiFrames = s.nroiFrames := rfl
@[simp] theorem closeSequence_storeCount (s : State) : (closeSequence s).storeCount = s.storeCount := rfl
@[simp] theorem closeSequence_frameBlocks (s : State) : (closeSequence s).frameBlocks = s.frameBlocks := rfl
@[simp] theorem closeSequence_frameRoiBlocks (s : State) : (closeSequence s).frameRoiBlocks = s.frameRoiBlocks := rfl
@[simp] theorem closeSequence_valid (s : State) : (closeSequence s).valid = { s.valid with seqAll := true, seqRoi := seqPartValid s s.roiFrames, seqNroi := seqPartValid s s.nroiFrames } := rfl
@[simp] theorem closeSequence_mapMin (s : State) : (closeSequence s).mapMin = s.mapMin := rfl
@[simp] theorem closeSequence_mapMax (s : State) : (closeSequence s).mapMax = s.mapMax := rfl
@[simp] theorem closeSequence_mapMinEff (s : State) : (closeSequence s).mapMinEff = s.mapMinEff := rfl
@[simp] theorem closeSequence_mapMaxEff (s : State) : (closeSequence s).mapMaxEff = s.mapMaxEff := rfl
@[simp] theorem closeSequence_mapCount (s : State) : (closeSequence s).mapCount = s.mapCount := rfl
@[simp] theorem closeSequence_resFrame (s : State) : (closeSequence s).resFrame = s.resFrame := rfl
@[simp] theorem closeSequence_resSum (s : State) : (closeSequence s).resSum = s.resSum := rfl
@[simp] theorem closeSequence_resSeq (s : State) : (closeSequence s).resSeq = seqResults s := rfl
@[simp] theorem closeSequence_resSsd (s : State) : (closeSequence s).resSsd = s.resSsd := rfl
@[simp] theorem closeSequence_mem (s : State) : (closeSequence s).mem = s.mem := rfl
@[simp] theorem closeSequence_resets (s : State) : (closeSequence s).resets = s.resets := rfl
@[simp] theorem closeSequence_draws (s : State) : (closeSequence s).draws = s.draws := rfl
@[simp] theorem closeSequence_inbox (s : State) : (closeSequence s).inbox = s.inbox := rfl
@[simp] theorem closeSequence_response (s : State) : (closeSequence s).response = s.response := rfl

@[simp] theorem boundErrorWrites_params (s : State) (lo : F64) (hi : F64) : (boundErrorWrites s lo hi).params = s.params := rfl
@[simp] theorem boundErrorWrites_curCmd (s : State) (lo : F64) (hi : F64) : (boundErrorWrites s lo hi).curCmd = s.curCmd := rfl
@[simp] theorem boundErrorWrites_busy (s : State) (lo : F64) (hi : F64) : (boundErrorWrites s lo hi).busy = s.busy := rfl
@[simp] theorem boundErrorWrites_done (s : State) (lo : F64) (hi : F64) : (boundErrorWrites s lo hi).done = s.done := rfl
@[simp] theorem boundErrorWrites_err (s : State) (lo : F64) (hi : F64) : (boundErrorWrites s lo hi).err = s.err := rfl
@[simp] theorem boundErrorWrites_cmdOvr (s : State) (lo : F64) (hi : F64) : (boundErrorWrites s lo hi).cmdOvr = s.cmdOvr := rfl
@[simp] theorem boundErrorWrites_rej (s : State) (lo : F64) (hi : F64) : (boundErrorWrites s lo hi).rej = s.rej := rfl
@[simp] theorem boundErrorWrites_wrDrop (s : State) (lo : F64) (hi : F64) : (boundErrorWrites s lo hi).wrDrop = s.wrDrop := rfl
@[simp] theorem boundErrorWrites_seqState (s : State) (lo : F64) (hi : F64) : (boundErrorWrites s lo hi).seqState = s.seqState := rfl
@[simp] theorem boundErrorWrites_errOp (s : State) (lo : F64) (hi : F64) : (boundErrorWrites s lo hi).errOp = s.errOp := rfl
@[simp] theorem boundErrorWrites_errCode (s : State) (lo : F64) (hi : F64) : (boundErrorWrites s lo hi).errCode = s.errCode := rfl
@[simp] theorem boundErrorWrites_doneIe (s : State) (lo : F64) (hi : F64) : (boundErrorWrites s lo hi).doneIe = s.doneIe := rfl
@[simp] theorem boundErrorWrites_errIe (s : State) (lo : F64) (hi : F64) : (boundErrorWrites s lo hi).errIe = s.errIe := rfl
@[simp] theorem boundErrorWrites_cfgWidth (s : State) (lo : F64) (hi : F64) : (boundErrorWrites s lo hi).cfgWidth = s.cfgWidth := rfl
@[simp] theorem boundErrorWrites_cfgHeight (s : State) (lo : F64) (hi : F64) : (boundErrorWrites s lo hi).cfgHeight = s.cfgHeight := rfl
@[simp] theorem boundErrorWrites_actW (s : State) (lo : F64) (hi : F64) : (boundErrorWrites s lo hi).actW = s.actW := rfl
@[simp] theorem boundErrorWrites_actH (s : State) (lo : F64) (hi : F64) : (boundErrorWrites s lo hi).actH = s.actH := rfl
@[simp] theorem boundErrorWrites_nbw (s : State) (lo : F64) (hi : F64) : (boundErrorWrites s lo hi).nbw = s.nbw := rfl
@[simp] theorem boundErrorWrites_nbh (s : State) (lo : F64) (hi : F64) : (boundErrorWrites s lo hi).nbh = s.nbh := rfl
@[simp] theorem boundErrorWrites_cfgValid (s : State) (lo : F64) (hi : F64) : (boundErrorWrites s lo hi).cfgValid = s.cfgValid := rfl
@[simp] theorem boundErrorWrites_roiEn (s : State) (lo : F64) (hi : F64) : (boundErrorWrites s lo hi).roiEn = s.roiEn := rfl
@[simp] theorem boundErrorWrites_epSkip (s : State) (lo : F64) (hi : F64) : (boundErrorWrites s lo hi).epSkip = s.epSkip := rfl
@[simp] theorem boundErrorWrites_frames (s : State) (lo : F64) (hi : F64) : (boundErrorWrites s lo hi).frames = s.frames := rfl
@[simp] theorem boundErrorWrites_roiFrames (s : State) (lo : F64) (hi : F64) : (boundErrorWrites s lo hi).roiFrames = s.roiFrames := rfl
@[simp] theorem boundErrorWrites_nroiFrames (s : State) (lo : F64) (hi : F64) : (boundErrorWrites s lo hi).nroiFrames = s.nroiFrames := rfl
@[simp] theorem boundErrorWrites_storeCount (s : State) (lo : F64) (hi : F64) : (boundErrorWrites s lo hi).storeCount = s.storeCount := rfl
@[simp] theorem boundErrorWrites_frameBlocks (s : State) (lo : F64) (hi : F64) : (boundErrorWrites s lo hi).frameBlocks = s.frameBlocks := rfl
@[simp] theorem boundErrorWrites_frameRoiBlocks (s : State) (lo : F64) (hi : F64) : (boundErrorWrites s lo hi).frameRoiBlocks = s.frameRoiBlocks := rfl
@[simp] theorem boundErrorWrites_valid (s : State) (lo : F64) (hi : F64) : (boundErrorWrites s lo hi).valid = { s.valid with mapValid := false } := rfl
@[simp] theorem boundErrorWrites_mapMin (s : State) (lo : F64) (hi : F64) : (boundErrorWrites s lo hi).mapMin = s.mapMin := rfl
@[simp] theorem boundErrorWrites_mapMax (s : State) (lo : F64) (hi : F64) : (boundErrorWrites s lo hi).mapMax = s.mapMax := rfl
@[simp] theorem boundErrorWrites_mapMinEff (s : State) (lo : F64) (hi : F64) : (boundErrorWrites s lo hi).mapMinEff = lo := rfl
@[simp] theorem boundErrorWrites_mapMaxEff (s : State) (lo : F64) (hi : F64) : (boundErrorWrites s lo hi).mapMaxEff = hi := rfl
@[simp] theorem boundErrorWrites_mapCount (s : State) (lo : F64) (hi : F64) : (boundErrorWrites s lo hi).mapCount = 0 := rfl
@[simp] theorem boundErrorWrites_resFrame (s : State) (lo : F64) (hi : F64) : (boundErrorWrites s lo hi).resFrame = s.resFrame := rfl
@[simp] theorem boundErrorWrites_resSum (s : State) (lo : F64) (hi : F64) : (boundErrorWrites s lo hi).resSum = s.resSum := rfl
@[simp] theorem boundErrorWrites_resSeq (s : State) (lo : F64) (hi : F64) : (boundErrorWrites s lo hi).resSeq = s.resSeq := rfl
@[simp] theorem boundErrorWrites_resSsd (s : State) (lo : F64) (hi : F64) : (boundErrorWrites s lo hi).resSsd = s.resSsd := rfl
@[simp] theorem boundErrorWrites_mem (s : State) (lo : F64) (hi : F64) : (boundErrorWrites s lo hi).mem = s.mem := rfl
@[simp] theorem boundErrorWrites_resets (s : State) (lo : F64) (hi : F64) : (boundErrorWrites s lo hi).resets = s.resets := rfl
@[simp] theorem boundErrorWrites_draws (s : State) (lo : F64) (hi : F64) : (boundErrorWrites s lo hi).draws = s.draws := rfl
@[simp] theorem boundErrorWrites_inbox (s : State) (lo : F64) (hi : F64) : (boundErrorWrites s lo hi).inbox = s.inbox := rfl
@[simp] theorem boundErrorWrites_response (s : State) (lo : F64) (hi : F64) : (boundErrorWrites s lo hi).response = s.response := rfl

@[simp] theorem commitMap_params (s : State) (lo : F64) (hi : F64) : (commitMap s lo hi).params = s.params := rfl
@[simp] theorem commitMap_curCmd (s : State) (lo : F64) (hi : F64) : (commitMap s lo hi).curCmd = s.curCmd := rfl
@[simp] theorem commitMap_busy (s : State) (lo : F64) (hi : F64) : (commitMap s lo hi).busy = s.busy := rfl
@[simp] theorem commitMap_done (s : State) (lo : F64) (hi : F64) : (commitMap s lo hi).done = s.done := rfl
@[simp] theorem commitMap_err (s : State) (lo : F64) (hi : F64) : (commitMap s lo hi).err = s.err := rfl
@[simp] theorem commitMap_cmdOvr (s : State) (lo : F64) (hi : F64) : (commitMap s lo hi).cmdOvr = s.cmdOvr := rfl
@[simp] theorem commitMap_rej (s : State) (lo : F64) (hi : F64) : (commitMap s lo hi).rej = s.rej := rfl
@[simp] theorem commitMap_wrDrop (s : State) (lo : F64) (hi : F64) : (commitMap s lo hi).wrDrop = s.wrDrop := rfl
@[simp] theorem commitMap_seqState (s : State) (lo : F64) (hi : F64) : (commitMap s lo hi).seqState = s.seqState := rfl
@[simp] theorem commitMap_errOp (s : State) (lo : F64) (hi : F64) : (commitMap s lo hi).errOp = s.errOp := rfl
@[simp] theorem commitMap_errCode (s : State) (lo : F64) (hi : F64) : (commitMap s lo hi).errCode = s.errCode := rfl
@[simp] theorem commitMap_doneIe (s : State) (lo : F64) (hi : F64) : (commitMap s lo hi).doneIe = s.doneIe := rfl
@[simp] theorem commitMap_errIe (s : State) (lo : F64) (hi : F64) : (commitMap s lo hi).errIe = s.errIe := rfl
@[simp] theorem commitMap_cfgWidth (s : State) (lo : F64) (hi : F64) : (commitMap s lo hi).cfgWidth = s.cfgWidth := rfl
@[simp] theorem commitMap_cfgHeight (s : State) (lo : F64) (hi : F64) : (commitMap s lo hi).cfgHeight = s.cfgHeight := rfl
@[simp] theorem commitMap_actW (s : State) (lo : F64) (hi : F64) : (commitMap s lo hi).actW = s.actW := rfl
@[simp] theorem commitMap_actH (s : State) (lo : F64) (hi : F64) : (commitMap s lo hi).actH = s.actH := rfl
@[simp] theorem commitMap_nbw (s : State) (lo : F64) (hi : F64) : (commitMap s lo hi).nbw = s.nbw := rfl
@[simp] theorem commitMap_nbh (s : State) (lo : F64) (hi : F64) : (commitMap s lo hi).nbh = s.nbh := rfl
@[simp] theorem commitMap_cfgValid (s : State) (lo : F64) (hi : F64) : (commitMap s lo hi).cfgValid = s.cfgValid := rfl
@[simp] theorem commitMap_roiEn (s : State) (lo : F64) (hi : F64) : (commitMap s lo hi).roiEn = s.roiEn := rfl
@[simp] theorem commitMap_epSkip (s : State) (lo : F64) (hi : F64) : (commitMap s lo hi).epSkip = s.epSkip := rfl
@[simp] theorem commitMap_frames (s : State) (lo : F64) (hi : F64) : (commitMap s lo hi).frames = s.frames := rfl
@[simp] theorem commitMap_roiFrames (s : State) (lo : F64) (hi : F64) : (commitMap s lo hi).roiFrames = s.roiFrames := rfl
@[simp] theorem commitMap_nroiFrames (s : State) (lo : F64) (hi : F64) : (commitMap s lo hi).nroiFrames = s.nroiFrames := rfl
@[simp] theorem commitMap_storeCount (s : State) (lo : F64) (hi : F64) : (commitMap s lo hi).storeCount = s.storeCount := rfl
@[simp] theorem commitMap_frameBlocks (s : State) (lo : F64) (hi : F64) : (commitMap s lo hi).frameBlocks = s.frameBlocks := rfl
@[simp] theorem commitMap_frameRoiBlocks (s : State) (lo : F64) (hi : F64) : (commitMap s lo hi).frameRoiBlocks = s.frameRoiBlocks := rfl
@[simp] theorem commitMap_valid (s : State) (lo : F64) (hi : F64) : (commitMap s lo hi).valid = { s.valid with mapValid := true } := rfl
@[simp] theorem commitMap_mapMin (s : State) (lo : F64) (hi : F64) : (commitMap s lo hi).mapMin = s.mapMin := rfl
@[simp] theorem commitMap_mapMax (s : State) (lo : F64) (hi : F64) : (commitMap s lo hi).mapMax = s.mapMax := rfl
@[simp] theorem commitMap_mapMinEff (s : State) (lo : F64) (hi : F64) : (commitMap s lo hi).mapMinEff = lo := rfl
@[simp] theorem commitMap_mapMaxEff (s : State) (lo : F64) (hi : F64) : (commitMap s lo hi).mapMaxEff = hi := rfl
@[simp] theorem commitMap_mapCount (s : State) (lo : F64) (hi : F64) : (commitMap s lo hi).mapCount = s.storeCount := rfl
@[simp] theorem commitMap_resFrame (s : State) (lo : F64) (hi : F64) : (commitMap s lo hi).resFrame = s.resFrame := rfl
@[simp] theorem commitMap_resSum (s : State) (lo : F64) (hi : F64) : (commitMap s lo hi).resSum = s.resSum := rfl
@[simp] theorem commitMap_resSeq (s : State) (lo : F64) (hi : F64) : (commitMap s lo hi).resSeq = s.resSeq := rfl
@[simp] theorem commitMap_resSsd (s : State) (lo : F64) (hi : F64) : (commitMap s lo hi).resSsd = s.resSsd := rfl
@[simp] theorem commitMap_mem (s : State) (lo : F64) (hi : F64) : (commitMap s lo hi).mem = Memory.writeBytes s.mem Space.map.start (mapBytes s lo hi) := rfl
@[simp] theorem commitMap_resets (s : State) (lo : F64) (hi : F64) : (commitMap s lo hi).resets = s.resets := rfl
@[simp] theorem commitMap_draws (s : State) (lo : F64) (hi : F64) : (commitMap s lo hi).draws = s.draws := rfl
@[simp] theorem commitMap_inbox (s : State) (lo : F64) (hi : F64) : (commitMap s lo hi).inbox = s.inbox := rfl
@[simp] theorem commitMap_response (s : State) (lo : F64) (hi : F64) : (commitMap s lo hi).response = s.response := rfl

end Sys2Proof.Machine
end

