-- ==== Sys2Proof/Laws/Float.lean ====
section
/-! SUPPORT. Laws of the binary64 rounding and of the integer sums. -/

set_option autoImplicit false

namespace Sys2Proof

theorem F64.roundDiv_le (n d : Nat) : F64.roundDiv n d ≤ n / d + 1 := by
  unfold F64.roundDiv; split_ifs <;> omega

theorem F64.le_roundDiv (n d : Nat) : n / d ≤ F64.roundDiv n d := by
  unfold F64.roundDiv; split_ifs <;> omega

/-- roundDiv is a nearest integer: no integer is closer to n/d. -/
theorem F64.roundDiv_nearest (n d : Nat) (hd : 0 < d) (k : Int) :
    |(F64.roundDiv n d : Int) * d - n| ≤ |k * d - n| := by
  have hdm := Nat.div_add_mod n d
  have hr := Nat.mod_lt n hd
  have hn : (n : Int) = d * (n / d : Nat) + (n % d : Nat) := by exact_mod_cast hdm.symm
  generalize hq : n / d = q at *
  generalize hm : n % d = r at *
  have key : ∀ j : Int, (j - q) * d - r = j * d - n := by intro j; rw [hn]; ring
  have hk : k ≤ q ∨ (q : Int) + 1 ≤ k := by omega
  have hd' : (0 : Int) < d := by exact_mod_cast hd
  have hfar : (r : Int) ≤ |k * d - n| ∨ (d : Int) - r ≤ |k * d - n| := by
    rcases hk with hk | hk
    · left
      rw [← key k]
      have : (k - q) * (d : Int) ≤ 0 := mul_nonpos_of_nonpos_of_nonneg (by omega) hd'.le
      rw [abs_of_nonpos (by omega)]; omega
    · right
      rw [← key k]
      have : (d : Int) ≤ (k - q) * d := by nlinarith
      exact le_trans (by omega) (le_abs_self _)
  have hnear : |(F64.roundDiv n d : Int) * d - n| = min (r : Int) (d - r) := by
    rw [← key]
    unfold F64.roundDiv
    rw [hm, hq]
    have e0 : ((q : Int) - q) * d - r = -r := by ring
    have e1 : (((q + 1 : Nat) : Int) - q) * d - r = d - r := by push_cast; ring
    split_ifs with h1 h2 h3
    · rw [e0, abs_neg, abs_of_nonneg (by omega)]; omega
    · rw [e1, abs_of_nonneg (by omega)]; omega
    · rw [e0, abs_neg, abs_of_nonneg (by omega)]; omega
    · rw [e1, abs_of_nonneg (by omega)]; omega
  rw [hnear]
  rcases hfar with h | h <;> omega

theorem sumTo_mono {n : Nat} {f g : Nat → Nat} (h : ∀ i, i < n → f i ≤ g i) : sumTo n f ≤ sumTo n g := by
  induction n with
  | zero => exact le_rfl
  | succ n ih => exact Nat.add_le_add (ih fun i hi => h i (by omega)) (h n (by omega))

theorem sumTo_congr {n : Nat} {f g : Nat → Nat} (h : ∀ i, i < n → f i = g i) : sumTo n f = sumTo n g := by
  induction n with
  | zero => rfl
  | succ n ih =>
    show sumTo n f + f n = sumTo n g + g n
    rw [ih fun i hi => h i (by omega), h n (by omega)]

/-- The model's sum is the library's. -/
theorem sumTo_eq_sum (n : Nat) (f : Nat → Nat) : sumTo n f = ∑ i ∈ Finset.range n, f i := by
  induction n with
  | zero => rfl
  | succ n ih => rw [Finset.sum_range_succ, ← ih]; rfl

theorem sumTo_le_mul {n c : Nat} {f : Nat → Nat} (h : ∀ i, i < n → f i ≤ c) : sumTo n f ≤ n * c := by
  induction n with
  | zero => simp [sumTo]
  | succ n ih =>
    show sumTo n f + f n ≤ (n + 1) * c
    have := ih fun i hi => h i (by omega)
    have := h n (by omega)
    rw [Nat.add_mul]; omega

/-- How many blocks are selected is at most how many there are. -/
theorem countTo_le (n : Nat) (p : Nat → Bool) : countTo n p ≤ n := by
  have := @sumTo_le_mul n 1 (fun i => if p i then 1 else 0) (fun i _ => by split_ifs <;> omega)
  simpa [countTo] using this

/-- What LOG10_FN can be: the opaque function's own answer, or +0.0 (41 R256, R262). -/
theorem log10Fn_cases (x : F64) :
    (log10Fn x = Config.log10Raw x ∧ F64.finite (F64.mul (F64.ofNat 10) (log10Fn x)) = true) ∨
    log10Fn x = F64.zero false := by
  unfold log10Fn
  by_cases h : F64.finite (F64.mul (F64.ofNat 10) (Config.log10Raw x)) = true
  · rw [if_pos h]; exact .inl ⟨rfl, h⟩
  · rw [if_neg h]; exact .inr rfl

/-- The two cases of PSNRF (41 R255). -/
theorem psnrWith_cases (log : F64 → F64) (m : F64) :
    (F64.eq m (F64.zero false) = true ∧ psnrWith log m = zeroPsnr) ∨
    (F64.eq m (F64.zero false) = false ∧
      psnrWith log m = F64.mul (F64.ofNat 10) (log (F64.div peak2 m))) := by
  unfold psnrWith
  cases h : F64.eq m (F64.zero false) <;> simp

end Sys2Proof
end

