-- ==== Sys2Proof/Laws/Memory.lean ====
section
/-! SUPPORT. The laws of memory: what a read after a write gives, that a write leaves every other byte
alone, and that every memory operation keeps the canonical form. -/

set_option autoImplicit false

namespace Sys2Proof.Machine

/-! ### Read after write -/

theorem lookup_cons (a : Nat) (b : Byte) (m : Memory) (x : Nat) :
    Memory.lookup ((a, b) :: m) x = if x = a then some b else Memory.lookup m x := by
  by_cases h : x = a
  · simp [Memory.lookup, h]
  · simp [Memory.lookup, h, Ne.symm h]

theorem lookup_write (m : Memory) (a : Nat) (b : Byte) (x : Nat) :
    Memory.lookup (Memory.write m a b) x = if x = a then some b else Memory.lookup m x := by
  induction m with
  | nil => simp [Memory.write, lookup_cons]
  | cons c m ih =>
    obtain ⟨a', b'⟩ := c
    simp only [Memory.write]
    split
    · rw [lookup_cons]
    · split
      · rename_i heq
        have : a' = a := by simpa using heq
        subst this
        rw [lookup_cons, lookup_cons]
        by_cases h : x = a' <;> simp [h]
      · rename_i hne
        have hne : a' ≠ a := by simpa using hne
        rw [lookup_cons, lookup_cons, ih]
        by_cases h : x = a
        · subst h; simp [Ne.symm hne]
        · simp [h]

theorem lookup_writeLE_outside (n v : Nat) (m : Memory) (a x : Nat) (h : x < a ∨ a + n ≤ x) :
    Memory.lookup (Memory.writeLE m a n v) x = Memory.lookup m x := by
  induction n generalizing m a v with
  | zero => rfl
  | succ n ih =>
    simp only [Memory.writeLE]
    rw [ih _ _ _ (by omega), lookup_write, if_neg (by omega)]

theorem lookup_writeLE_inside (n v : Nat) (m : Memory) (a i : Nat) (h : i < n) :
    Memory.lookup (Memory.writeLE m a n v) (a + i) = some (BitVec.ofNat 8 (v / 256 ^ i)) := by
  induction n generalizing m a v i with
  | zero => omega
  | succ n ih =>
    simp only [Memory.writeLE]
    cases i with
    | zero => rw [lookup_writeLE_outside _ _ _ _ _ (by omega), lookup_write]; simp
    | succ i =>
      rw [show a + (i + 1) = (a + 1) + i by omega, ih _ _ _ _ (by omega), Nat.div_div_eq_div_mul,
        pow_succ, Nat.mul_comm]

theorem lookup_writeEntries_outside (vs : List Nat) (m : Memory) (a x : Nat)
    (h : x < a ∨ a + 4 * vs.length ≤ x) :
    Memory.lookup (Memory.writeEntries m a vs) x = Memory.lookup m x := by
  induction vs generalizing m a with
  | nil => rfl
  | cons v vs ih =>
    simp only [List.length_cons] at h
    simp only [Memory.writeEntries]
    rw [ih _ _ (by omega), lookup_writeLE_outside _ _ _ _ _ (by omega)]

theorem lookup_writeEntries_inside (vs : List Nat) (m : Memory) (a k i : Nat)
    (hk : k < vs.length) (hi : i < 4) :
    Memory.lookup (Memory.writeEntries m a vs) (a + 4 * k + i) =
      some (BitVec.ofNat 8 (vs[k] / 256 ^ i)) := by
  induction vs generalizing m a k with
  | nil => simp at hk
  | cons v vs ih =>
    simp only [Memory.writeEntries]
    cases k with
    | zero =>
      rw [lookup_writeEntries_outside _ _ _ _ (by omega), Nat.mul_zero, Nat.add_zero,
        lookup_writeLE_inside _ _ _ _ _ hi]
      rfl
    | succ k =>
      rw [show a + 4 * (k + 1) + i = (a + 4) + 4 * k + i by omega,
        ih _ _ _ (by simpa using hk)]
      rfl

theorem lookup_writeBytes_outside (bs : List Byte) (m : Memory) (a x : Nat)
    (h : x < a ∨ a + bs.length ≤ x) :
    Memory.lookup (Memory.writeBytes m a bs) x = Memory.lookup m x := by
  induction bs generalizing m a with
  | nil => rfl
  | cons b bs ih =>
    simp only [List.length_cons] at h
    simp only [Memory.writeBytes]
    rw [ih _ _ (by omega), lookup_write, if_neg (by omega)]

theorem lookup_writeBytes_inside (bs : List Byte) (m : Memory) (a k : Nat) (hk : k < bs.length) :
    Memory.lookup (Memory.writeBytes m a bs) (a + k) = some bs[k] := by
  induction bs generalizing m a k with
  | nil => simp at hk
  | cons b bs ih =>
    simp only [Memory.writeBytes]
    cases k with
    | zero => rw [lookup_writeBytes_outside _ _ _ _ (by omega), lookup_write]; simp
    | succ k => rw [show a + (k + 1) = (a + 1) + k by omega, ih _ _ _ (by simpa using hk)]; rfl

/-! ### The canonical form is kept -/

theorem wf_cons {a : Nat} {b : Byte} {m : Memory} :
    Memory.wf ((a, b) :: m) = true ↔ (∀ c ∈ m.head?, a < c.1) ∧ Memory.wf m = true := by
  cases m with
  | nil => simp [Memory.wf]
  | cons c m => obtain ⟨a', b'⟩ := c; simp [Memory.wf]

theorem head_write (m : Memory) (a : Nat) (b : Byte) (c : Host.Cell)
    (h : c ∈ (Memory.write m a b).head?) : c.1 = a ∨ ∃ d ∈ m.head?, c.1 = d.1 := by
  cases m with
  | nil => simp [Memory.write] at h; simp [← h]
  | cons d m =>
    obtain ⟨a', b'⟩ := d
    simp only [Memory.write] at h
    split at h
    · simp at h; simp [← h]
    · split at h
      · simp at h; simp [← h]
      · simp at h; simp [← h]

theorem write_wf (m : Memory) (a : Nat) (b : Byte) (h : Memory.wf m = true) :
    Memory.wf (Memory.write m a b) = true := by
  induction m with
  | nil => rfl
  | cons c m ih =>
    obtain ⟨a', b'⟩ := c
    have h' := wf_cons.1 h
    simp only [Memory.write]
    split
    · exact wf_cons.2 ⟨by simpa using ‹a < a'›, h⟩
    · split
      · rename_i heq
        have : a' = a := by simpa using heq
        subst this
        exact wf_cons.2 ⟨h'.1, h'.2⟩
      · rename_i hlt hne
        have hne' : a' ≠ a := by simpa using hne
        refine wf_cons.2 ⟨fun c hc => ?_, ih h'.2⟩
        obtain hc | ⟨d, hd, hc⟩ := head_write m a b c hc
        · omega
        · rw [hc]; exact h'.1 d hd

theorem writeLE_wf (n v : Nat) (m : Memory) (a : Nat) (h : Memory.wf m = true) :
    Memory.wf (Memory.writeLE m a n v) = true := by
  induction n generalizing m a v with
  | zero => exact h
  | succ n ih => exact ih _ _ _ (write_wf _ _ _ h)

theorem writeEntries_wf (vs : List Nat) (m : Memory) (a : Nat) (h : Memory.wf m = true) :
    Memory.wf (Memory.writeEntries m a vs) = true := by
  induction vs generalizing m a with
  | nil => exact h
  | cons v vs ih => exact ih _ _ (writeLE_wf _ _ _ _ h)

theorem writeBytes_wf (bs : List Byte) (m : Memory) (a : Nat) (h : Memory.wf m = true) :
    Memory.wf (Memory.writeBytes m a bs) = true := by
  induction bs generalizing m a with
  | nil => exact h
  | cons b bs ih => exact ih _ _ (write_wf _ _ _ h)

/-- The memory after reset is canonical. -/
theorem powerOn_mem_wf (p : Params) : Memory.wf (State.powerOn p).mem = true := rfl

theorem reset_mem_wf : Memory.wf State.reset.mem = true := rfl

/-! ### The reader of one byte -/

/-- Equal cells and equal draws give equal bytes. -/
theorem byteAt_congr {s t : State} {off : Nat} (hm : Memory.lookup t.mem off = Memory.lookup s.mem off)
    (hr : t.resets = s.resets) : byteAt t off = byteAt s off := by
  simp [byteAt, hm, hr]

theorem byteAt_of_lookup {s : State} {off : Nat} {b : Byte} (h : Memory.lookup s.mem off = some b) :
    byteAt s off = b := by
  simp [byteAt, h]

end Sys2Proof.Machine
end

