-- ==== Sys2Proof/Laws/Ops.lean ====
section
/-! SUPPORT. What each shared operation, each command and the step can do, said once. -/

set_option autoImplicit false

namespace Sys2Proof.Machine

/-! ### Acceptance -/

/-- The three actions of a CMD write (40 R200). -/
theorem issue_cases (s : State) (w : Word) :
    (s.busy = true ∧ issue s w = { s with cmdOvr := true }) ∨
    (s.busy = false ∧ s.err = true ∧ acceptedUnderErr w = false ∧ issue s w = { s with rej := true }) ∨
    (s.busy = false ∧ (s.err = false ∨ acceptedUnderErr w = true) ∧ issue s w = accept s w) := by
  unfold issue
  cases hb : s.busy <;> cases he : s.err <;> cases hw : acceptedUnderErr w <;> simp

/-! ### The commands: if one answers a next state, it is one of these -/

theorem execConfig_cases {r e : Bool} {s t : State} (h : execConfig r e s = .next t) :
    (∃ c, configCheck s r = some c ∧ t = raiseError s c) ∨
    (configCheck s r = none ∧ t = complete (latchConfig s r e)) := by
  unfold execConfig at h
  split at h
  · rename_i c hc; cases h; exact .inl ⟨c, hc, rfl⟩
  · rename_i hc; cases h; exact .inr ⟨hc, rfl⟩

theorem execSeqStart_cases {s t : State} (h : execSeqStart s = .next t) :
    (s.cfgValid = false ∧ t = raiseError s .notConfigured) ∨
    (s.cfgValid = true ∧ t = complete (openSequence s)) := by
  unfold execSeqStart at h
  split at h
  · rename_i hc; cases h; exact .inl ⟨hc, rfl⟩
  · rename_i hc; cases h; exact .inr ⟨Bool.eq_true_of_not_eq_false hc, rfl⟩

theorem execFrame_cases {s t : State} (h : execFrame s = .next t) :
    (∃ c, frameCheck s = some c ∧ t = raiseError (abortIfFatal s c) c) ∨
    (frameCheck s = none ∧ t = complete (commitFrame s)) := by
  unfold execFrame at h
  split at h
  · rename_i c hc; cases h; exact .inl ⟨c, hc, rfl⟩
  · rename_i hc; cases h; exact .inr ⟨hc, rfl⟩

theorem execSeqFinish_cases {s t : State} (h : execSeqFinish s = .next t) :
    (∃ c, seqFinishCheck s = some c ∧ t = raiseError s c) ∨
    (seqFinishCheck s = none ∧ t = complete (closeSequence s)) := by
  unfold execSeqFinish at h
  split at h
  · rename_i c hc; cases h; exact .inl ⟨c, hc, rfl⟩
  · rename_i hc; cases h; exact .inr ⟨hc, rfl⟩

theorem execMap_cases {n x : Bool} {s t : State} (h : execMap n x s = .next t) :
    (∃ c, mapCheck s n x = some c ∧ t = raiseError s c) ∨
    (mapCheck s n x = none ∧ ∃ c, boundCheck (lowerBound s n) (upperBound s x) = some c ∧
      t = raiseError (boundErrorWrites s (lowerBound s n) (upperBound s x)) c) ∨
    (mapCheck s n x = none ∧ boundCheck (lowerBound s n) (upperBound s x) = none ∧
      t = complete (commitMap s (lowerBound s n) (upperBound s x))) := by
  unfold execMap at h
  split at h
  · rename_i c hc; cases h; exact .inl ⟨c, hc, rfl⟩
  · rename_i hc
    simp only [Host.Outcome.next.injEq] at h
    unfold mapWithBounds at h
    split at h
    · rename_i c hb; exact .inr (.inl ⟨hc, c, hb, h.symm⟩)
    · rename_i hb; exact .inr (.inr ⟨hc, hb, h.symm⟩)

/-! ### The commands: what each does once its checks are known -/

theorem exec_config_error {r e : Bool} {s : State} {c : ErrorCode} (h : configCheck s r = some c) :
    exec (.config r e) s = .next (raiseError s c) := by simp only [exec, execConfig, h]

theorem exec_config_ok {r e : Bool} {s : State} (h : configCheck s r = none) :
    exec (.config r e) s = .next (complete (latchConfig s r e)) := by simp only [exec, execConfig, h]

theorem exec_frame_error {s : State} {c : ErrorCode} (h : frameCheck s = some c) :
    exec .frame s = .next (raiseError (abortIfFatal s c) c) := by simp only [exec, execFrame, h]

theorem exec_frame_ok {s : State} (h : frameCheck s = none) :
    exec .frame s = .next (complete (commitFrame s)) := by simp only [exec, execFrame, h]

theorem exec_seqFinish_error {s : State} {c : ErrorCode} (h : seqFinishCheck s = some c) :
    exec .seqFinish s = .next (raiseError s c) := by simp only [exec, execSeqFinish, h]

theorem exec_seqFinish_ok {s : State} (h : seqFinishCheck s = none) :
    exec .seqFinish s = .next (complete (closeSequence s)) := by simp only [exec, execSeqFinish, h]

theorem exec_map_error {n x : Bool} {s : State} {c : ErrorCode} (h : mapCheck s n x = some c) :
    exec (.map n x) s = .next (raiseError s c) := by simp only [exec, execMap, h]

theorem exec_map_boundError {n x : Bool} {s : State} {c : ErrorCode} (h : mapCheck s n x = none)
    (hb : boundCheck (lowerBound s n) (upperBound s x) = some c) :
    exec (.map n x) s =
      .next (raiseError (boundErrorWrites s (lowerBound s n) (upperBound s x)) c) := by
  simp only [exec, execMap, mapWithBounds, h, hb]

theorem exec_map_ok {n x : Bool} {s : State} (h : mapCheck s n x = none)
    (hb : boundCheck (lowerBound s n) (upperBound s x) = none) :
    exec (.map n x) s =
      .next (complete (commitMap s (lowerBound s n) (upperBound s x))) := by
  simp only [exec, execMap, mapWithBounds, h, hb]

/-! ### The bus -/

/-- What one transaction at an offset does (20 R100 to R112). -/
theorem hostAccess_cases (s : State) (a : Access) (off : Nat) (sz : Size) :
    hostAccess s a off sz = answerBusErr s ∨
    (a = .read ∧ target off = .registers ∧ hostAccess s a off sz = readRegisters s off) ∨
    (∃ w, a = .write w ∧ target off = .registers ∧ hostAccess s a off sz = writeRegisters s off w) ∨
    (∃ sp boff, a = .read ∧ target off = .buffer sp boff ∧ bufferAccessOk s.params sp boff sz = true ∧
      hostAccess s a off sz = readBuffer s sp boff sz) ∨
    (∃ sp boff w, a = .write w ∧ target off = .buffer sp boff ∧ sp.hostWritable = true ∧
      bufferAccessOk s.params sp boff sz = true ∧ hostAccess s a off sz = writeBuffer s sp boff sz w) := by
  unfold hostAccess
  cases ht : target off with
  | registers =>
    simp only
    by_cases hr : registerAccessOk off sz = true
    · rw [if_pos hr]; cases a <;> simp
    · rw [if_neg hr]; simp
  | buffer sp boff =>
    simp only
    by_cases hr : bufferAccessOk s.params sp boff sz = true
    · rw [if_pos hr]
      cases a with
      | read => simp [hr]
      | write w =>
        by_cases hw : sp.hostWritable = true
        · simp [hw, hr]
        · simp [hw]
    · rw [if_neg hr]; simp
  | unmapped => simp

theorem busTransaction_cases {s t : State} {x : Transaction} (h : busTransaction s x = .next t) :
    inBlock s.params x.addr = true ∧ t = hostAccess s x.access (x.addr - s.params.base) x.size := by
  unfold busTransaction at h
  split at h
  · cases h; exact ⟨‹_›, rfl⟩
  · cases h

/-! ### The engine and the step -/

theorem engineStep_cases {s t : State} (h : engineStep s = .next t) :
    (s.busy = false ∧ t = s) ∨
    (s.busy = true ∧ ∃ i, decode s.curCmd = .ok i ∧ exec i s = .next t) ∨
    (s.busy = true ∧ (∃ r, decode s.curCmd = .error r) ∧ t = illegalCommand s) := by
  unfold engineStep at h
  split at h
  · split at h
    · rename_i i hi; exact .inr (.inl ⟨‹_›, i, hi, h⟩)
    · rename_i r hr; cases h; exact .inr (.inr ⟨‹_›, ⟨r, hr⟩, rfl⟩)
  · rename_i hb; cases h; exact .inl ⟨Bool.eq_false_of_not_eq_true hb, rfl⟩

theorem step_cases {s t : State} (h : step s = .next t) :
    (s.inbox = [] ∧ engineStep s = .next t) ∨
    (∃ q, s.inbox = .engine :: q ∧ engineStep (withInbox s q) = .next t) ∨
    (∃ x q, s.inbox = .bus x :: q ∧ busTransaction (withInbox s q) x = .next t) ∨
    (∃ q, s.inbox = .reset :: q ∧ t = hardReset (withInbox s q)) := by
  unfold step at h
  split at h
  · exact .inl ⟨‹_›, h⟩
  · exact .inr (.inl ⟨_, ‹_›, h⟩)
  · exact .inr (.inr (.inl ⟨_, _, ‹_›, h⟩))
  · cases h; exact .inr (.inr (.inr ⟨_, ‹_›, rfl⟩))

end Sys2Proof.Machine
end

