-- ==== Sys2Proof/Laws/PerInstr.lean ====
section
/-! SUPPORT. Facts about the syntax of every command, one lemma per constructor. -/

namespace Sys2Proof.Laws.EncodeFields

/-- RSVD of the word is 0 and its OP is the opcode 30 R152 gives the command. -/
def opcodeOf : Instr → Byte
  | .nop => 0x00#8
  | .config _ _ => 0x01#8
  | .seqStart => 0x02#8
  | .frame => 0x03#8
  | .seqFinish => 0x04#8
  | .map _ _ => 0x05#8
  | .clearErr => 0x0E#8
  | .softReset => 0x0F#8

def Statement (i : Instr) : Prop :=
  rsvdField (encode i) = 0#22 ∧ opField (encode i) = opcodeOf i

theorem nop : Statement .nop := by unfold Statement; decide
theorem config (r e : Bool) : Statement (.config r e) := by
  unfold Statement; cases r <;> cases e <;> decide
theorem seqStart : Statement .seqStart := by unfold Statement; decide
theorem frame : Statement .frame := by unfold Statement; decide
theorem seqFinish : Statement .seqFinish := by unfold Statement; decide
theorem map (n x : Bool) : Statement (.map n x) := by
  unfold Statement; cases n <;> cases x <;> decide
theorem clearErr : Statement .clearErr := by unfold Statement; decide
theorem softReset : Statement .softReset := by unfold Statement; decide

end Sys2Proof.Laws.EncodeFields
end

