-- ==== Sys2Proof/Tests/Slice0.lean ====
section
/-! SUPPORT. Tests. Expected values come from spec/95 (the vector is named) or are read off the rule that
is named. The last part shows, for each statement with hypotheses, a state and operands that meet them. -/

set_option autoImplicit false

namespace Sys2Proof.Tests

open Sys2Proof Sys2Proof.Machine

/-! ### Helpers -/

/-- The next state's view `f`, if there is a next state. -/
def after {α : Type} (o : Host.Outcome State Fault Refusal) (f : State → α) : Option α :=
  match o with
  | .next s => some (f s)
  | _ => none

/-- STATUS and ERRCODE. -/
def statusOf (s : State) : Word × Word := (statusWord s, errcodeWord s)

/-- A host program's last state's view `f`, if it ran to its end. -/
def ranWith {α : Type} (r : RunResult) (f : State → α) : Option α :=
  match r with
  | .ran s _ => some (f s)
  | _ => none

/-- A command in flight on a state. -/
def inFlight (s : State) (w : Word) : State := accept s w

/-- 16x16, configured, ROI as given; the smallest frame. -/
def configured (roi skip : Bool) : State :=
  { State.reset with
    actW := 16, actH := 16, nbw := 1, nbh := 1, cfgValid := true, roiEn := roi, epSkip := skip }

/-- 32x16: two blocks. -/
def configured2 (roi skip : Bool) : State := { configured roi skip with actW := 32, nbw := 2 }

/-- An open sequence with two mask bytes. -/
def opened2 (roi skip : Bool) (m0 m1 : Byte) : State :=
  { configured2 roi skip with seqState := .opened, mem := [(0x03000000, m0), (0x03000001, m1)] }

/-- A closed 16x16 sequence of n identical frames (43 R350's corner case: every stored SSD is 0). -/
def closed (n : Nat) : State :=
  { configured false false with
    seqState := .closed, frames := BitVec.ofNat 32 n, storeCount := BitVec.ofNat 32 n,
    valid := { frameAll := true, seqAll := true },
    mem := (List.range' 0x04000000 (4 * n)).map (fun a => (a, 0#8)) }

/-- MAP's explicit bounds. -/
def bounds (lo hi : F64) (s : State) : State := { s with mapMin := lo, mapMax := hi }

/-! ### WellFormed: each check refuses an ill-formed term -/

theorem test_reserved_bits_refused :
    rsvdOk 0x00000405#32 = false ∧ commandWordWellFormed 0x00000405#32 = false := by decide

theorem test_unassigned_opcode_refused :
    opAssigned 0x00000006#32 = false ∧ opAssigned 0x0000000D#32 = false ∧
    opAssigned 0x00000010#32 = false ∧ commandWordWellFormed 0x000000FF#32 = false := by decide

theorem test_flag_without_admission_refused :
    flagsOk 0x00000100#32 = false ∧ flagsOk 0x0000020F#32 = false ∧
    commandWordWellFormed 0x00000100#32 = false := by decide

theorem test_spelling_foreign_flag_refused : Spelling.wellFormed ⟨.nop, [.roi]⟩ = false := by decide

theorem test_spelling_repeated_flag_refused :
    Spelling.wellFormed ⟨.config, [.roi, .roi]⟩ = false := by decide

theorem test_transaction_wide_data_refused :
    Transaction.wellFormed ⟨.write 0x100#32, 0x01000000, .one⟩ = false := by decide

theorem test_line_wide_value_refused :
    HostLine.wellFormed (.write .two 0x01000000 0x10000#32) = false ∧
    HostLine.wellFormed (.expect .one 0x05000000 0x100#32) = false ∧
    HostLine.wellFormed (.cmd ⟨.frame, [.minx]⟩) = false ∧
    HostLine.wellFormed (.run ⟨.map, [.skip]⟩) = false := by decide

theorem test_params_illegal_refused :
    ¬ ({ Params.reference with base := 1 } : Params).Legal ∧
    ¬ ({ Params.reference with frameBufBytes := 383 } : Params).Legal ∧
    ¬ ({ Params.reference with maskBufBytes := 0 } : Params).Legal ∧
    ¬ ({ Params.reference with storeEntries := 2 ^ 22 + 1 } : Params).Legal := by decide

theorem test_params_reference_legal : Params.reference.Legal := by decide

/-! ### Decode: every constructor's word, written out bit by bit from 30 R150 and R152:
RSVD (22 bits), F1, F0, OP (8 bits) -/

theorem test_decode_nop : decode (0b0000000000000000000000#22 ++ 0b00#2 ++ 0b00000000#8) = .ok .nop := by
  decide
theorem test_decode_config :
    decode (0b0000000000000000000000#22 ++ 0b00#2 ++ 0b00000001#8) = .ok (.config false false) ∧
    decode (0b0000000000000000000000#22 ++ 0b01#2 ++ 0b00000001#8) = .ok (.config true false) ∧
    decode (0b0000000000000000000000#22 ++ 0b10#2 ++ 0b00000001#8) = .ok (.config false true) := by
  decide
theorem test_decode_seqStart :
    decode (0b0000000000000000000000#22 ++ 0b00#2 ++ 0b00000010#8) = .ok .seqStart := by decide
theorem test_decode_frame :
    decode (0b0000000000000000000000#22 ++ 0b00#2 ++ 0b00000011#8) = .ok .frame := by decide
theorem test_decode_seqFinish :
    decode (0b0000000000000000000000#22 ++ 0b00#2 ++ 0b00000100#8) = .ok .seqFinish := by decide
theorem test_decode_map :
    decode (0b0000000000000000000000#22 ++ 0b01#2 ++ 0b00000101#8) = .ok (.map true false) ∧
    decode (0b0000000000000000000000#22 ++ 0b10#2 ++ 0b00000101#8) = .ok (.map false true) ∧
    decode (0b0000000000000000000000#22 ++ 0b11#2 ++ 0b00000101#8) = .ok (.map true true) := by decide
theorem test_decode_clearErr :
    decode (0b0000000000000000000000#22 ++ 0b00#2 ++ 0b00001110#8) = .ok .clearErr := by decide
theorem test_decode_softReset :
    decode (0b0000000000000000000000#22 ++ 0b00#2 ++ 0b00001111#8) = .ok .softReset := by decide

/-- V-P2 to V-P6. -/
theorem test_decode_illegal :
    decode 0x00000100#32 = .error (.flagNotAdmitted 0x00#8) ∧
    decode 0x00000006#32 = .error (.reservedOpcode 0x06#8) ∧
    decode 0x00000405#32 = .error .reservedBits ∧ decode 0x80000002#32 = .error .reservedBits ∧
    decode 0x000000FF#32 = .error (.reservedOpcode 0xFF#8) := by decide

theorem test_table_words :
    decodeTableWord 32 0x305 = some (.map true true) ∧ decodeTableWord 32 0x100 = none := by decide

/-! ### The step -/

/-- withFetchWord: the very next step runs the word. V-P1, and V-P6 for an ILLEGAL word. -/
theorem test_fetch_word_runs :
    after (step (State.reset.withFetchWord 32 0x00)) statusOf = some (0x00000002#32, 0#32) ∧
    after (step (State.reset.withFetchWord 32 0xFF)) statusOf =
      some (0x00000006#32, 0x0000FF01#32) := by decide

/-- V-P7: SEQ_START under ERR is discarded with REJ; V-P8: NOP is accepted. -/
theorem test_issue_under_error :
    statusOf (issue (raiseError State.reset .illegalCmd) 0x00000002#32) =
      (0x00000016#32, 0x00000001#32) ∧
    (issue (raiseError State.reset .illegalCmd) 0x00000000#32).busy = true := by decide

/-- V-P10: a CMD write while a command is in flight sets CMD_OVR. -/
theorem test_issue_while_busy :
    statusWord (issue (inFlight State.reset 0x00000003#32) 0#32) = 0x00000009#32 := by decide

/-! ### The commands, one step each -/

/-- V-P13: NOP with DONE_IE. -/
theorem test_nop_interrupt :
    after (exec .nop (writeIrqEn State.reset 1#32)) (fun s => (statusWord s, irq s)) =
      some (0x00000042#32, true) := by decide

/-- V-C1. -/
theorem test_config_latches :
    after (exec (.config false false) { State.reset with cfgWidth := 32, cfgHeight := 16 })
      (fun s => (readReg s .actDim, readReg s .actGrid, readReg s .actCfg, statusWord s)) =
      some (0x00100020#32, 0x00010002#32, 0x00000001#32, 0x00000402#32) := by decide

/-- V-C3 (zero before alignment), V-C5, V-C6; V-C8 with MASK_BUF_BYTES = 4. -/
theorem test_config_errors :
    after (exec (.config false false)
      { inFlight State.reset 0x001#32 with cfgWidth := 0, cfgHeight := 15 }) errcodeWord =
        some 0x00000104#32 ∧
    after (exec (.config false false)
      { inFlight State.reset 0x001#32 with cfgWidth := 16, cfgHeight := 8 }) errcodeWord =
        some 0x00000105#32 ∧
    after (exec (.config false false)
      { inFlight State.reset 0x001#32 with cfgWidth := 64, cfgHeight := 48 }) errcodeWord =
        some 0x00000106#32 ∧
    after (exec (.config true false)
      { inFlight (State.powerOn { Params.reference with maskBufBytes := 4 }) 0x101#32 with
        cfgWidth := 64, cfgHeight := 32 }) errcodeWord = some 0x00000106#32 := by decide

/-- V-SS2. -/
theorem test_seqStart_opens :
    after (exec .seqStart (configured2 false false)) statusOf = some (0x00000502#32, 0#32) := by decide

/-- V-SS1. -/
theorem test_seqStart_not_configured :
    after (exec .seqStart (inFlight State.reset 0x002#32)) statusOf =
      some (0x00000006#32, 0x00000203#32) := by decide

/-- V-F3, and V-F7, V-F8: the empty partitions, from mask bytes (0, 0) and (0xFF, 0x80). -/
theorem test_frame_errors :
    after (exec .frame (inFlight (configured2 false false) 0x003#32)) errcodeWord =
      some 0x00000302#32 ∧
    after (exec .frame (inFlight (opened2 true false 0x00 0x00) 0x003#32)) statusOf =
      some (0x00000706#32, 0x00000308#32) ∧
    after (exec .frame (inFlight (opened2 true false 0xFF 0x80) 0x003#32)) statusOf =
      some (0x00000706#32, 0x00000309#32) := by decide

/-- V-F2, V-F10: the counters and VALID with mask (1, 0), and with an empty ROI under EP_SKIP. -/
theorem test_frame_counts :
    after (exec .frame (opened2 true false 0x01 0x00))
      (fun s => (validWord s.valid, s.roiFrames, s.nroiFrames, s.frameRoiBlocks, s.storeCount)) =
      some (0x00000007#32, 1#32, 1#32, 1#32, 2#32) ∧
    after (exec .frame (opened2 true true 0x00 0x00))
      (fun s => (validWord s.valid, s.roiFrames, s.nroiFrames, s.frameRoiBlocks, s.storeCount)) =
      some (0x00000005#32, 0#32, 1#32, 0#32, 2#32) := by decide

/-- V-S1's sums over two frames: AMSE_Y 5.0, VALID, STATUS. -/
theorem test_seqFinish_averages :
    after (exec .seqFinish
        { configured false false with
          seqState := .opened, frames := 2, storeCount := 2, valid := { frameAll := true },
          resSum := ⟨{ mseY := 0x4024000000000000#64 }, {}, {}⟩ })
      (fun s => (s.resSeq.all.amseY, validWord s.valid, statusWord s)) =
      some (0x4014000000000000#64, 0x00000011#32, 0x00000602#32) := by decide +kernel

/-- V-S2. -/
theorem test_seqFinish_empty :
    after (exec .seqFinish (inFlight { configured false false with seqState := .opened } 0x004#32))
      statusOf = some (0x00000506#32, 0x0000040A#32) := by decide

/-- V-M1's first block: SSD 0 between the bounds 0.0 and 100.0 gives byte 255. -/
theorem test_map_quantizes :
    after (exec (.map true true)
        (bounds 0x0000000000000000#64 0x4059000000000000#64 (closed 1)))
      (fun s => (byteAt s 0x05000000, s.mapCount, validWord s.valid)) =
      some (255#8, 1#32, 0x00000111#32) := by decide +kernel

/-- V-M9, V-M10, V-M12, V-M13. -/
theorem test_map_errors :
    after (exec (.map true true)
        (inFlight (bounds 0x4049000000000000#64 0x4044000000000000#64 (closed 1)) 0x305#32))
      (fun s => (errcodeWord s, s.mapMinEff, s.mapMaxEff, s.valid.mapValid)) =
      some (0x0000050D#32, 0x4049000000000000#64, 0x4044000000000000#64, false) ∧
    after (exec (.map true false) (inFlight (bounds 0x7FF8000000000000#64 0#64 (closed 1)) 0x105#32))
      (fun s => (errcodeWord s, s.mapMinEff)) = some (0x0000050C#32, 0#64) ∧
    after (exec (.map true true)
        (inFlight (bounds 0xFFEE42D130773B76#64 0x7FEE42D130773B76#64 (closed 1)) 0x305#32))
      (fun s => (errcodeWord s, s.mapMinEff)) = some (0x0000050C#32, 0xFFEE42D130773B76#64) ∧
    after (exec (.map true true) (inFlight (bounds 0x8000000000000000#64 0#64 (closed 1)) 0x305#32))
      errcodeWord = some 0x0000050E#32 := by decide +kernel

/-- V-P9. -/
theorem test_clearErr :
    after (exec .clearErr { raiseError State.reset .illegalCmd with rej := true }) statusOf =
      some (0x00000002#32, 0#32) := by decide

/-- V-P17: registers cleared, a buffer byte kept. -/
theorem test_softReset :
    after (exec .softReset { configured true true with
        seqState := .closed, frames := 3, errIe := true, cfgWidth := 32, mem := [(0x02000000, 5#8)] })
      (fun s => (statusWord s, readReg s .actCfg, s.frames, byteAt s 0x02000000)) =
      some (0x00000002#32, 0#32, 0#32, 5#8) := by decide

/-! ### The bus -/

/-- V-BUS1, V-BUS4, V-BUS6, V-BUS8, V-BUS12, V-BUS13, V-BUS15. -/
theorem test_bus_answers :
    (hostAccess State.reset .read 0x000 .four).response = some (.okRead 0x50534E52#32) ∧
    (hostAccess State.reset .read 0x000 .two).response = some .busErr ∧
    (hostAccess State.reset .read 0xFFC .four).response = some (.okRead 0#32) ∧
    (hostAccess State.reset .read 0x1000 .four).response = some .busErr ∧
    (hostAccess State.reset (.write 0xFFFF#32) 0x01000001 .two).response = some .busErr ∧
    (hostAccess State.reset .read 0x01001000 .one).response = some .busErr ∧
    (hostAccess State.reset (.write 1#32) 0x04000000 .four).response = some .busErr := by decide

/-- V-BUS11: little-endian. -/
theorem test_bus_little_endian :
    (hostAccess (hostAccess State.reset (.write 0x04030201#32) 0x01000000 .four)
      .read 0x01000002 .two).response = some (.okRead 0x0403#32) := by decide

/-- V-P11: an input write while busy is dropped. -/
theorem test_bus_busy_drop :
    (hostAccess (inFlight State.reset 0x003#32) (.write 7#32) 0x01000000 .one).wrDrop = true ∧
    (hostAccess (inFlight State.reset 0x003#32) (.write 7#32) 0x01000000 .one).mem = [] := by decide

/-- V-BUS21's window: FRAME ALL PSNR_Y stands at 0x420, LO word first. -/
theorem test_result_window :
    readWindow { State.reset with resFrame := ⟨{ psnrY := 0x403C217C586579BD#64 }, {}, {}⟩ } 0x420 =
      0x586579BD#32 ∧
    readWindow { State.reset with resFrame := ⟨{ psnrY := 0x403C217C586579BD#64 }, {}, {}⟩ } 0x424 =
      0x403C217C#32 := by decide

/-- Program P4 (V-L1.8): an unaligned width is refused, as a host program. -/
theorem test_program_unaligned_width :
    ranWith (runProgram 2
      [.write .four 0x020 15#32, .write .four 0x024 16#32, .run ⟨.config, []⟩,
       .expect .four 0x00C 0x00000006#32, .expect .four 0x010 0x00000105#32] State.reset)
      (fun s => s.cfgValid) = some false := by decide +kernel

/-! ### Numbers (V-N) -/

/-- V-F16, V-L1.5: the SSD of a 16x16 window with a constant difference of 10, of either sign. -/
theorem test_window_ssd :
    windowSsd (fun _ => 0) (fun _ => 10) 0 16 16 = 25600 ∧
    windowSsd (fun _ => 10) (fun _ => 0) 0 16 16 = 25600 := by decide +kernel

/-- V-N7, V-L1.5 (d = 255), V-L1.7. -/
theorem test_mse :
    msef 51200 768 = 0x4050AAAAAAAAAAAB#64 ∧ msef 16646400 256 = 0x40EFC02000000000#64 ∧
    msef 6400 768 = 0x4020AAAAAAAAAAAB#64 := by decide +kernel

/-- V-L1.6: WPSNR of (28.13..., 100, 100). -/
theorem test_wpsnr :
    wpsnrf 0x403C217C586579BD#64 0x4059000000000000#64 0x4059000000000000#64 =
      0x40470C8EA1260DA7#64 := by decide +kernel

/-- V-M2: the percentiles of (100, 28.13...). -/
theorem test_percentile :
    pctf 10 [0x4059000000000000#64, 0x403C217C586579BD#64] = 0x4041A8AB27C74395#64 ∧
    pctf 90 [0x4059000000000000#64, 0x403C217C586579BD#64] = 0x405734098235BCA5#64 := by decide +kernel

/-- V-M1, V-M3: 71, 255 and 77. -/
theorem test_quantizer :
    quantf 0x403C217C586579BD#64 0#64 0x4059000000000000#64 = 71#8 ∧
    quantf 0x4059000000000000#64 0#64 0x4059000000000000#64 = 255#8 ∧
    quantf 0x403C217C586579BD#64 0#64 0x405734098235BCA5#64 = 77#8 := by decide +kernel

/-! ### Witnesses: a state and operands that meet each statement's hypotheses -/

/-- Parameters with room for exactly one 16x16 frame. -/
def tight : Params where
  base := 0
  frameBufBytes := 384
  maskBufBytes := 1
  storeEntries := 1

/-- A state with one event next. -/
def next (s : State) (e : HostEvent) : State := { s with inbox := [e] }

/-- An open sequence of n identical 16x16 frames. -/
def opened (n : Nat) : State :=
  { closed n with seqState := .opened, valid := { frameAll := decide (0 < n) } }

/-- Buffer bytes a, a+1, ..., a+n-1, all b. -/
def filled (a n : Nat) (b : Byte) : Memory := (List.range' a n).map (fun o => (o, b))

theorem lookup_filled (n : Nat) (b : Byte) (m : Memory) (a o : Nat) :
    Memory.lookup (filled a n b ++ m) o =
      if a ≤ o ∧ o < a + n then some b else Memory.lookup m o := by
  induction n generalizing a with
  | zero =>
    have : ¬ (a ≤ o ∧ o < a + 0) := by omega
    rw [if_neg this]; rfl
  | succ n ih =>
    have : filled a (n + 1) b = (a, b) :: filled (a + 1) n b := by simp [filled, List.range'_succ]
    rw [this, List.cons_append, Memory.lookup, ih]
    split_ifs <;> simp_all <;> try omega

theorem witness_SpellingSetsTheNamedFlags :
    Spelling.wellFormed ⟨.config, [.skip, .roi]⟩ = true ∧ Spelling.wellFormed ⟨.map, [.maxx]⟩ = true ∧
    Spelling.wellFormed ⟨.nop, []⟩ = true ∧
    [FlagName.skip, FlagName.roi].Perm [FlagName.roi, FlagName.skip] := by decide

theorem witness_StepRunsTheDecodedCommand :
    (inFlight State.reset 0x305#32).busy = true ∧
    decode (inFlight State.reset 0x305#32).curCmd = .ok (.map true true) ∧
    (Instr.map true true).wellFormed = true ∧ (inFlight State.reset 0x305#32).inbox = [] ∧
    (next (inFlight State.reset 0x305#32) .engine).inbox = .engine :: [] := by decide

theorem witness_IllegalWordRaisesIllegalCmd :
    decode 0x00000401#32 = .error .reservedBits ∧ State.reset.busy = false ∧
    State.reset.err = false ∧ (raiseError State.reset .seqState).busy = false ∧
    (raiseError State.reset .seqState).err = true := by decide

/-- Each of the three outcomes: overrun, rejected, accepted (under an error too). -/
theorem witness_CmdWriteHasThreeOutcomes :
    (next (inFlight State.reset 0x003#32) (.bus ⟨.write 0x00000002#32, 0x008, .four⟩)).inbox =
      .bus ⟨.write 0x00000002#32, State.reset.params.base + 0x008, .four⟩ :: [] ∧
    (inFlight State.reset 0x003#32).busy = true ∧
    (raiseError State.reset .seqState).busy = false ∧ (raiseError State.reset .seqState).err = true ∧
    State.reset.busy = false ∧ State.reset.err = false := by decide

/-- The first and the last address of the block's range. -/
theorem witness_CommandInFlightEventuallyCompletes :
    ∀ x, HostEvent.bus x ∈
        ({ inFlight State.reset 0x003#32 with
           inbox := [.bus ⟨.read, 0, .one⟩, .bus ⟨.read, 0x07FFFFFF, .four⟩] } : State).inbox →
      State.reset.params.base ≤ x.addr ∧ x.addr < State.reset.params.base + 2 ^ 27 := by
  intro x hx; simp at hx; rcases hx with rfl | rfl <;> decide

/-- An error without a surviving write, one that aborts the sequence, and one that moves the bounds. -/
theorem witness_ErrorsArePrecise :
    (∃ t, exec .seqFinish State.reset = .next t ∧ State.reset.err = false ∧ t.err = true) ∧
    (∃ t, exec .frame (opened2 true false 0x00 0x00) = .next t ∧ t.err = true ∧
      t.seqState ≠ (opened2 true false 0x00 0x00).seqState) ∧
    (∃ t, exec (.map true true) (bounds 0x4049000000000000#64 0x4044000000000000#64 (closed 1)) = .next t ∧
      t.err = true ∧ t.mapMinEff ≠ (closed 1).mapMinEff) := by
  exact ⟨⟨_, rfl, by decide, by decide⟩,
    ⟨_, exec_frame_error (c := .emptyPartitionRoi) (by decide), by decide, by decide⟩,
    ⟨_, exec_map_boundError (c := .mapInverted) (by decide +kernel) (by decide +kernel), by decide,
      by decide⟩⟩

theorem witness_OnlyListedCommandsMoveSeqState :
    (∃ t, exec .seqStart (configured false false) = .next t ∧ t.err = false ∧ t.seqState = .opened) ∧
    (∃ t, exec .seqFinish (opened 1) = .next t ∧ t.err = false ∧ t.seqState = .closed) ∧
    (∃ t, exec .softReset (opened 1) = .next t ∧ t.seqState = .idle) :=
  ⟨⟨_, rfl, rfl, rfl⟩, ⟨_, rfl, rfl, rfl⟩, ⟨_, rfl, rfl⟩⟩

theorem witness_NopOnlyCompletes :
    State.reset.busy = false ∧ (0x00000100#32).extractLsb' 0 8 = 0x00#8 ∧
    0x00000100#32 ≠ 0x00000000#32 := by decide

/-- At the capacities' very edge: 384 bytes, one entry, one mask byte. -/
theorem witness_ConfigLatchesLegalDimensions :
    ∀ s, s = ({ State.powerOn tight with cfgWidth := 16, cfgHeight := 16 } : State) →
      s.seqState ≠ .opened ∧ 0 < s.cfgWidth.toNat ∧ 0 < s.cfgHeight.toNat ∧
      s.cfgWidth.toNat % 16 = 0 ∧ s.cfgHeight.toNat % 16 = 0 ∧
      s.cfgWidth.toNat * s.cfgHeight.toNat * 3 / 2 = s.params.frameBufBytes ∧
      s.cfgWidth.toNat / 16 * (s.cfgHeight.toNat / 16) = s.params.storeEntries ∧
      s.cfgWidth.toNat / 16 * (s.cfgHeight.toNat / 16) = s.params.maskBufBytes := by
  rintro s rfl; decide

/-- An open sequence; a zero width; an unaligned height; one block too many for each capacity. -/
theorem witness_ConfigErrorsInOrder :
    (opened 1).seqState = .opened ∧ State.reset.seqState ≠ .opened ∧ State.reset.cfgWidth.toNat = 0 ∧
    (∀ s, s = ({ State.reset with cfgWidth := 16, cfgHeight := 17 } : State) →
      0 < s.cfgWidth.toNat ∧ 0 < s.cfgHeight.toNat ∧ s.cfgHeight.toNat % 16 ≠ 0) ∧
    (∀ s, s = ({ State.powerOn tight with cfgWidth := 32, cfgHeight := 16 } : State) →
      0 < s.cfgWidth.toNat ∧ 0 < s.cfgHeight.toNat ∧ s.cfgWidth.toNat % 16 = 0 ∧
      s.cfgHeight.toNat % 16 = 0 ∧
      s.params.frameBufBytes < s.cfgWidth.toNat * s.cfgHeight.toNat * 3 / 2 ∧
      s.params.storeEntries < s.cfgWidth.toNat / 16 * (s.cfgHeight.toNat / 16) ∧
      s.params.maskBufBytes < s.cfgWidth.toNat / 16 * (s.cfgHeight.toNat / 16)) := by
  refine ⟨by decide, by decide, by decide, ?_, ?_⟩ <;> (rintro s rfl; decide)

theorem witness_SeqStartOpensAnEmptySequence :
    (configured true false).cfgValid = true ∧ State.reset.cfgValid = false := by decide

/-- Idle; full by one block; an empty ROI; a full one. -/
theorem witness_FrameErrorsInOrder :
    State.reset.seqState ≠ .opened ∧
    ((opened 16).seqState = .opened ∧ (opened 16).params.storeEntries <
      (opened 16).storeCount.toNat + (opened 16).nbw.toNat * (opened 16).nbh.toNat) ∧
    (∀ s, s = opened2 true false 0x00 0x00 →
      s.seqState = .opened ∧ s.storeCount.toNat + s.nbw.toNat * s.nbh.toNat ≤ s.params.storeEntries ∧
      s.roiEn = true ∧ s.epSkip = false ∧ (maskedBlocks s).card = 0) ∧
    (∀ s, s = opened2 true false 0xFF 0x80 →
      s.seqState = .opened ∧ s.storeCount.toNat + s.nbw.toNat * s.nbh.toNat ≤ s.params.storeEntries ∧
      s.roiEn = true ∧ s.epSkip = false ∧ (maskedBlocks s).card ≠ 0 ∧
      (maskedBlocks s).card = s.nbw.toNat * s.nbh.toNat) := by
  refine ⟨by decide, by decide, ?_, ?_⟩ <;> (rintro s rfl; decide)

/-- A frame with a ROI and a non-ROI block is ready; the last frame that fits is too; so is a frame with
an empty ROI under EP_SKIP = 1. For every statement about a completing FRAME. -/
theorem witness_FrameReady :
    FrameReady (opened2 true false 0x01 0x00) ∧ (opened2 true false 0x01 0x00).roiEn = true ∧
    FrameReady (opened 15) ∧ (opened 15).roiEn = false ∧
    FrameReady (opened2 true true 0x00 0x00) :=
  ⟨⟨by decide, by decide, by decide⟩, by decide, ⟨by decide, by decide, by decide⟩, by decide,
    ⟨by decide, by decide, by decide⟩⟩

/-- For FrameBlocksTileThePlanes. -/
theorem witness_FrameBlocksTileThePlanes : FrameReady (opened 15) ∧ ConfigLegal (opened 15) :=
  ⟨witness_FrameReady.2.2.1, by constructor <;> decide⟩

theorem witness_FrameCountsAndLeavesTheRest : FrameReady (opened2 true false 0x01 0x00) :=
  witness_FrameReady.1

theorem witness_FrameSumsTheSquaredDifferences :
    FrameReady (opened2 true false 0x01 0x00) ∧ (opened2 true false 0x01 0x00).roiEn = true ∧
    FrameReady (opened 15) ∧ (opened 15).roiEn = false :=
  ⟨witness_FrameReady.1, by decide, witness_FrameReady.2.2.1, by decide⟩

theorem witness_FramePartitionsAddUp :
    FrameReady (opened2 true false 0x01 0x00) ∧ (opened2 true false 0x01 0x00).roiEn = true :=
  ⟨witness_FrameReady.1, by decide⟩

theorem witness_FrameStatisticsFollowTheSsds : FrameReady (opened2 true true 0x00 0x00) :=
  witness_FrameReady.2.2.2.2

theorem witness_FrameAddsToTheSums : FrameReady (opened2 true false 0x01 0x00) := witness_FrameReady.1

theorem witness_FrameAppendsLumaSsds : FrameReady (opened 15) := witness_FrameReady.2.2.1

/-- A memory that differs just beyond the frame's last sample. -/
theorem witness_FrameReadsOnlyItsInputs :
    ConfigLegal (opened 0) ∧
    ∀ o, o < (opened 0).actW.toNat * (opened 0).actH.toNat * 3 / 2 →
      byteAt { opened 0 with mem := [(0x01000180, 9#8)] } (0x01000000 + o) =
        byteAt (opened 0) (0x01000000 + o) ∧
      byteAt { opened 0 with mem := [(0x01000180, 9#8)] } (0x02000000 + o) =
        byteAt (opened 0) (0x02000000 + o) := by
  refine ⟨by constructor <;> decide, fun o ho => ?_⟩
  have ho' : o < 384 := ho
  have h1 : (0x01000180 == 0x01000000 + o) = false := by simp; omega
  have h2 : (0x01000180 == 0x02000000 + o) = false := by simp; omega
  constructor
  · simp only [byteAt, Memory.lookup, h1]; rfl
  · simp only [byteAt, Memory.lookup, h2]; rfl

/-- Two equal 32x16 frames in the buffers, and a mask of one ROI and one non-ROI block. -/
def identical : State :=
  { opened2 true false 0x01 0x00 with
    mem := filled 0x01000000 768 7#8 ++ (filled 0x02000000 768 7#8 ++
      [(0x03000000, 0x01#8), (0x03000001, 0x00#8)]) }

theorem identical_masked : maskedBlocks identical = {0} := by
  have h0 : byteAt identical (0x03000000 + 0) = 0x01#8 := by
    simp only [byteAt, identical, lookup_filled]; rfl
  have h1 : byteAt identical (0x03000000 + 1) = 0x00#8 := by
    simp only [byteAt, identical, lookup_filled]; rfl
  have hb : blocks identical = {0, 1} := by decide
  rw [maskedBlocks, hb, Finset.filter_insert, Finset.filter_singleton, h0, h1]; rfl

theorem witness_IdenticalFramesScoreHundred :
    FrameReady identical ∧ ConfigLegal identical ∧ identical.roiEn = true ∧
    ∀ o, o < identical.actW.toNat * identical.actH.toNat * 3 / 2 →
      byteAt identical (0x01000000 + o) = byteAt identical (0x02000000 + o) := by
  refine ⟨⟨by decide, by decide, fun _ _ => ?_⟩, by constructor <;> decide, by decide, fun o ho => ?_⟩
  · rw [identical_masked]; decide
  · have ho' : o < 768 := ho
    simp only [byteAt, identical, lookup_filled]
    split_ifs <;> first | rfl | omega

theorem witness_SeqFinishAveragesAndCloses :
    ((opened 1).seqState = .opened ∧ (opened 1).frames ≠ 0#32) ∧ State.reset.seqState ≠ .opened ∧
    ((opened 0).seqState = .opened ∧ (opened 0).frames = 0#32) := by decide

/-- Explicit bounds 0.0 and 100.0. -/
theorem witness_MapQuantizesEveryBlock :
    ∀ s, s = bounds 0x0000000000000000#64 0x4059000000000000#64 (closed 16) →
      s.seqState = .closed ∧ s.storeCount ≠ 0#32 ∧ F64.finite s.mapMin = true ∧
      F64.finite s.mapMax = true ∧ F64.lt s.mapMin s.mapMax = true ∧
      F64.sub s.mapMax s.mapMin ≠ 0x7FF0000000000000#64 := by
  rintro s rfl; decide +kernel

theorem witness_MapEarlyErrorsInOrder :
    State.reset.seqState ≠ .closed ∧ ((closed 0).seqState = .closed ∧ (closed 0).storeCount = 0#32) ∧
    (∀ s, s = bounds 0x7FF0000000000000#64 0xFFF8000000000000#64 (closed 1) →
      s.seqState = .closed ∧ s.storeCount ≠ 0#32 ∧ s.mapMin.extractLsb' 52 11 = 0x7FF#11 ∧
      s.mapMax.extractLsb' 52 11 = 0x7FF#11) := by
  refine ⟨by decide, by decide, ?_⟩; rintro s rfl; decide

/-- Inverted bounds; the two zeros; bounds so far apart that their difference overflows. -/
theorem witness_MapBoundErrorsKeepTheBounds :
    (closed 1).seqState = .closed ∧ (closed 1).storeCount ≠ 0#32 ∧
    F64.finite 0x4049000000000000#64 = true ∧ F64.finite 0x4044000000000000#64 = true ∧
    F64.lt 0x4044000000000000#64 0x4049000000000000#64 = true ∧
    F64.finite 0x8000000000000000#64 = true ∧
    F64.eq 0x0000000000000000#64 0x8000000000000000#64 = true ∧
    F64.finite 0xFFEE42D130773B76#64 = true ∧ F64.finite 0x7FEE42D130773B76#64 = true ∧
    F64.lt 0xFFEE42D130773B76#64 0x7FEE42D130773B76#64 = true ∧
    F64.sub 0x7FEE42D130773B76#64 0xFFEE42D130773B76#64 = 0x7FF0000000000000#64 := by decide +kernel

theorem witness_SingleBlockAutomaticMapIsDegenerate :
    (closed 1).seqState = .closed ∧ (closed 1).storeCount = 1#32 := by decide

/-- The largest integer of the range. -/
theorem witness_IntegerConversionIsExact : 2 ^ 53 - 1 < 2 ^ 53 := by decide

/-- 1.0 +f 2^-53, a tie, and a candidate that is as near. -/
theorem witness_AdditionAndSubtractionRoundToNearestEven :
    F64.finite 0x3FF0000000000000#64 = true ∧ F64.finite 0x3CA0000000000000#64 = true ∧
    F64.finite (F64.add 0x3FF0000000000000#64 0x3CA0000000000000#64) = true ∧
    F64.finite (F64.sub 0x3FF0000000000000#64 0x3CA0000000000000#64) = true ∧
    F64.finite 0x3FF0000000000001#64 = true ∧
    F64.units 0x3FF0000000000001#64 ≠
      F64.units (F64.add 0x3FF0000000000000#64 0x3CA0000000000000#64) := by decide +kernel

theorem witness_MultiplicationRoundsToNearestEven :
    F64.finite 0x3FB999999999999A#64 = true ∧
    F64.finite (F64.mul 0x3FB999999999999A#64 0x3FB999999999999A#64) = true := by decide +kernel

theorem witness_DivisionRoundsToNearestEven :
    F64.finite 0x3FF0000000000000#64 = true ∧ F64.finite 0x4008000000000000#64 = true ∧
    F64.units 0x4008000000000000#64 ≠ 0 ∧
    F64.finite (F64.div 0x3FF0000000000000#64 0x4008000000000000#64) = true := by decide +kernel

theorem witness_MsePsnrAndWpsnrFollowTheirFormulas :
    16646400 < 2 ^ 53 ∧ 1 ≤ 256 ∧ 256 < 2 ^ 53 ∧ F64.lt 0x0000000000000000#64 0x3F70000000000000#64 = true := by
  decide +kernel

theorem zero_finite : F64.finite 0#64 = true := by decide
theorem zero_le_zero : F64.le 0#64 0#64 = true := by decide

/-- A LOG10_FN with finite values and (L1), and two MSEs, the smaller at the range's end. -/
theorem witness_PsnrIsNonIncreasingAndFinite :
    ∃ log : F64 → F64, (∀ x, F64.PositiveFinite x → F64.finite (log x) = true) ∧ Log10Monotone log ∧
      F64.finite 0x40EFC02000000000#64 = true ∧
      F64.le 0x3D10000000000000#64 0x3D10000000000000#64 = true ∧
      F64.le 0x3D10000000000000#64 0x40EFC02000000000#64 = true :=
  ⟨fun _ => 0#64, fun _ _ => zero_finite, fun _ _ _ _ _ => zero_le_zero, by decide +kernel,
    by decide +kernel, by decide +kernel⟩

/-- A value inside the bounds, one at the lower and one at the upper bound. -/
theorem witness_QuantizerFloorsAndIsMonotone :
    F64.lt 0x0000000000000000#64 0x4059000000000000#64 = true ∧
    F64.finite (F64.sub 0x4059000000000000#64 0x0000000000000000#64) = true ∧
    F64.isNaN 0x403C217C586579BD#64 = false ∧ F64.isNaN 0x4059000000000000#64 = false ∧
    F64.le 0x403C217C586579BD#64 0x4059000000000000#64 = true ∧
    F64.le 0x8000000000000000#64 0x0000000000000000#64 = true ∧
    F64.le 0x4059000000000000#64 0x4059000000000000#64 = true := by decide +kernel

/-- Two finite values: t = 10 * 1 = 100 * 0 + 10, so the 10th percentile is interpolated. -/
theorem witness_PercentileInterpolates :
    ∀ vs : List F64, vs = [0x4059000000000000#64, 0x403C217C586579BD#64] →
      (∀ v ∈ vs, F64.isNaN v = false) ∧ (∀ v ∈ vs, F64.finite v = true) ∧ vs ≠ [] ∧
      10 * (vs.length - 1) = 100 * 0 + 10 ∧ 90 * (vs.length - 1) = 100 * 0 + 90 := by
  rintro vs rfl
  refine ⟨fun v hv => ?_, fun v hv => ?_, by simp, by simp, by simp⟩ <;>
    (simp at hv; rcases hv with rfl | rfl <;> decide)

/-- Eleven values: the 10th and the 90th percentile fall on ranks 1 and 9. -/
theorem witness_PercentileSortsAndInterpolates :
    ∀ vs : List F64, vs = List.replicate 11 0#64 →
      (∀ v ∈ vs, F64.isNaN v = false) ∧ vs ≠ [] ∧ 10 * (vs.length - 1) = 100 * 1 ∧
      90 * (vs.length - 1) = 100 * 9 := by
  rintro vs rfl
  refine ⟨fun v hv => ?_, by simp, by simp, by simp⟩
  rw [List.eq_of_mem_replicate hv]; decide

/-- A value, and an empty open sequence with a frame of a ROI and a non-ROI block. -/
theorem witness_AveragesOfOneFrameAreItsValues :
    F64.finite 0x3FB999999999999A#64 = true ∧
    ∀ s, s = opened2 true false 0x01 0x00 →
      FrameReady s ∧ ConfigLegal s ∧ s.frames = 0#32 ∧ s.roiFrames = 0#32 ∧ s.nroiFrames = 0#32 ∧
      s.resSum = ⟨{}, {}, {}⟩ := by
  refine ⟨by decide +kernel, ?_⟩
  rintro s rfl
  exact ⟨witness_FrameReady.1, by constructor <;> decide, rfl, rfl, rfl, rfl⟩

/-- Each way to be bad at the edge of its window, and the accesses next to them that are not. -/
theorem witness_BusErrorsExactlyWhereListed :
    State.reset.params.Legal ∧ 0xFFC < 2 ^ 27 ∧ 0x07FFFFFF < 2 ^ 27 ∧
    (hostAccess State.reset .read 0xFFC .four).response ≠ some .busErr ∧
    (hostAccess State.reset .read 0xFFD .one).response = some .busErr ∧
    (hostAccess State.reset .read 0x1000 .four).response = some .busErr ∧
    (hostAccess State.reset .read 0x01000FFC .four).response ≠ some .busErr ∧
    (hostAccess State.reset .read 0x01001000 .one).response = some .busErr ∧
    (hostAccess State.reset .read 0x06000000 .one).response = some .busErr := by
  refine ⟨by decide, by decide, by decide, ?_, by decide, by decide, ?_, by decide, by decide⟩ <;>
    (intro h; exact absurd h (by simp [hostAccess, target, registerAccessOk, bufferAccessOk,
      readRegisters, readBuffer, Size.bytes, Space.bytes, State.reset, State.powerOn,
      Params.reference]))

theorem witness_ReadsHaveNoSideEffect : 0xFFC < 0x1000 := by decide

/-- Busy, and the last word of each input buffer. -/
theorem witness_BusyProtectedWritesAreDropped :
    (inFlight State.reset 0x003#32).busy = true ∧ (inFlight State.reset 0x003#32).params.Legal ∧
    4092 % Size.four.bytes = 0 ∧ 4092 + Size.four.bytes ≤ Space.ref.bytes State.reset.params ∧
    4092 + Size.four.bytes ≤ Space.tst.bytes State.reset.params ∧
    12 + Size.four.bytes ≤ Space.mask.bytes State.reset.params := by decide

theorem witness_RegisterWritesStoreOrAreIgnored :
    State.reset.busy = false ∧ 0xFFC < 0x1000 ∧ 0xFFC % 4 = 0 ∧
    0xFFC ∉ [0x008, 0x00C, 0x014, 0x020, 0x024, 0x060, 0x064, 0x068, 0x06C] ∧
    0x000 ∉ [0x008, 0x00C, 0x014, 0x020, 0x024, 0x060, 0x064, 0x068, 0x06C] := by decide

theorem witness_BufferWriteThenRead :
    State.reset.params.Legal ∧ State.reset.busy = false ∧ 14 % Size.two.bytes = 0 ∧
    14 + Size.two.bytes ≤ Space.mask.bytes State.reset.params := by decide

/-- The last stored entry, the first that is not; the last map byte while it is valid; and each reason
for a map byte to be unspecified. -/
theorem witness_StoreAndMapReadsAreStoredWhereSpecified :
    (closed 2).params.Legal ∧ 1 < (closed 2).storeCount.toNat ∧
    (closed 2).storeCount.toNat ≤ 2 ∧ 2 < (closed 2).params.storeEntries ∧
    (∀ s, s = ({ closed 2 with mapCount := 2, valid := { mapValid := true } } : State) →
      s.valid.mapValid = true ∧ 1 < s.mapCount.toNat ∧ s.mapCount.toNat ≤ 2 ∧ s.busy = false ∧
      decode (inFlight s 0x005#32).curCmd = .ok (.map false false)) ∧
    (closed 2).valid.mapValid = false := by
  refine ⟨by decide, by decide, by decide, by decide, ?_, by decide⟩
  rintro s rfl; decide

/-- The first unassigned offset, and the first beyond the result window. -/
theorem witness_RegistersReadTheirFields :
    0xFFC < 0x1000 ∧ 0xFFC % 4 = 0 ∧ 0x018 < 0x400 ∧ 0xC00 ≤ 0xC00 ∧ 0x018 ∉ [0x000, 0x004, 0x014] := by
  decide

theorem witness_InterruptFollowsItsCauses :
    (2#32).getLsbD 1 = true ∧ State.reset.busy = false ∧ State.reset.err = false ∧
    acceptedUnderErr 0x0000000E#32 = true ∧ (0xFFFFFFFC#32).getLsbD 0 = false ∧
    (0xFFFFFFFC#32).getLsbD 1 = false ∧ (∃ t, exec .clearErr State.reset = .next t) :=
  ⟨by decide, by decide, by decide, by decide, by decide, by decide, _, rfl⟩

theorem witness_WaitEndsAfterTheCompletion :
    (inFlight State.reset 0x003#32).inbox = [] ∧ State.reset.busy = false := by decide

theorem witness_FillEqualsWordWrite :
    State.reset.params.Legal ∧ State.reset.inbox = [] ∧ 12 % 4 = 0 ∧
    12 + 4 ≤ Space.mask.bytes State.reset.params := by decide

theorem witness_ResetAbandonsTheCommand :
    (next (inFlight State.reset 0x003#32) .reset).inbox = .reset :: [] := by decide

theorem witness_ResetMeetsInv : Params.reference.Legal ∧ tight.Legal := by decide

/-- The invariant's clauses at a state with a configuration, an open sequence and a command in flight. -/
theorem inv_opened : Inv (inFlight (opened 1) 0x004#32) := by
  constructor
  case config_legal => intro _; constructor <;> decide
  all_goals decide

theorem witness_StepKeepsInv :
    Inv (inFlight (opened 1) 0x004#32) ∧ ∃ t, step (inFlight (opened 1) 0x004#32) = .next t :=
  ⟨inv_opened, _, rfl⟩

theorem witness_StepKeepsCountersAgree :
    ∀ s, s = ({ opened2 true false 0x01 0x00 with frames := 1, roiFrames := 1, nroiFrames := 1 } : State) →
      CountersAgree s ∧ s.seqState = .opened ∧ s.roiEn = true ∧ s.epSkip = false ∧
      ∃ t, step s = .next t := by
  rintro s rfl
  exact ⟨fun _ _ _ => by decide, by decide, by decide, by decide, _, rfl⟩

theorem witness_StepKeepsStoreTopClear :
    Inv (inFlight (opened 1) 0x004#32) ∧ StoreTopClear (inFlight (opened 1) 0x004#32) ∧
    0 < (inFlight (opened 1) 0x004#32).storeCount.toNat ∧
    ∃ t, step (inFlight (opened 1) 0x004#32) = .next t := by
  refine ⟨inv_opened, fun i hi => ?_, by decide, _, rfl⟩
  have : i = 0 := by
    have h : (inFlight (opened 1) 0x004#32).storeCount.toNat = 1 := by decide
    omega
  subst this; decide

/-- A closed sequence that meets the invariant, and MAP on it with inverted bounds. -/
theorem inv_closed : Inv (bounds 0x4049000000000000#64 0x4044000000000000#64 (closed 1)) := by
  constructor
  case config_legal => intro _; constructor <;> decide
  all_goals decide

theorem witness_MapEmptyNeverOccurs :
    Inv (bounds 0x4049000000000000#64 0x4044000000000000#64 (closed 1)) ∧ (closed 1).err = false ∧
    ∃ t, exec (.map true true) (bounds 0x4049000000000000#64 0x4044000000000000#64 (closed 1)) =
      .next t :=
  ⟨inv_closed, by decide, _,
    exec_map_boundError (c := .mapInverted) (by decide +kernel) (by decide +kernel)⟩

theorem witness_EngineWritesOnlyItsBuffers :
    Inv (inFlight (opened 1) 0x004#32) ∧ ∃ t, exec .seqFinish (inFlight (opened 1) 0x004#32) = .next t :=
  ⟨inv_opened, _, rfl⟩

end Sys2Proof.Tests
end

section
/-! PROOF. The rounding family of 00 R14: `+f`, `-f`, `*f` and `/f` are the exact result rounded to
nearest, ties to even. An operation packs a sign and `roundMag n d`. That magnitude is a whole number of
units of the last place 2^s (s = `shiftOf n d`) nearest to n/d; every other finite magnitude is a multiple
of 2^s too, or lies below the binade of n/d, farther away than the binade's lower end. -/

set_option autoImplicit false

namespace Sys2Proof

/-! ### The fields of a pattern -/

theorem F64.expField_eq_magBits_div (x : F64) : F64.expField x = F64.magBits x / 2 ^ 52 := by
  unfold F64.expField F64.magBits; omega

theorem F64.fracField_eq_magBits_mod (x : F64) : F64.fracField x = F64.magBits x % 2 ^ 52 := by
  unfold F64.fracField F64.magBits; omega

theorem F64.expField_lt (x : F64) : F64.expField x < 2 ^ 11 := Nat.mod_lt _ (by decide)

theorem F64.fracField_lt (x : F64) : F64.fracField x < 2 ^ 52 := Nat.mod_lt _ (by decide)

theorem F64.infBits_eq : F64.infBits = 2047 * 2 ^ 52 := rfl

/-- `finite` in the order of the patterns: below infinity. -/
theorem F64.finite_iff_magBits_lt (x : F64) : F64.finite x = true ↔ F64.magBits x < F64.infBits := by
  have hlt := F64.expField_lt x
  have hexp := F64.expField_eq_magBits_div x
  rw [F64.infBits_eq]
  simp only [F64.finite, bne_iff_ne, ne_eq]
  omega

theorem F64.isNaN_of_finite {x : F64} (h : F64.finite x = true) : F64.isNaN x = false := by
  simp_all [F64.finite, F64.isNaN]

theorem F64.isInf_of_finite {x : F64} (h : F64.finite x = true) : F64.isInf x = false := by
  simp_all [F64.finite, F64.isInf]

/-- Two patterns that differ in the sign bit only have one magnitude. -/
theorem F64.mag_congr {x y : F64} (h : F64.magBits x = F64.magBits y) : F64.mag x = F64.mag y := by
  simp only [F64.mag, F64.expField_eq_magBits_div, F64.fracField_eq_magBits_mod, h]

theorem F64.mag_eq_zero_iff (x : F64) : F64.mag x = 0 ↔ F64.isZero x = true := by
  have hexp := F64.expField_eq_magBits_div x
  have hfrac := F64.fracField_eq_magBits_mod x
  simp only [F64.isZero, beq_iff_eq, F64.mag]
  split_ifs with h
  · omega
  · have : 0 < (2 ^ 52 + F64.fracField x) * 2 ^ (F64.expField x - 1) := by positivity
    omega

/-! ### Packing a sign and the rest -/

theorem F64.toNat_pack (s : Bool) {b : Nat} (hb : b < 2 ^ 63) :
    (F64.pack s b).toNat = (if s then 2 ^ 63 else 0) + b := by
  rw [F64.pack, BitVec.toNat_ofNat]
  exact Nat.mod_eq_of_lt (by split_ifs <;> omega)

theorem F64.neg_pack (s : Bool) {b : Nat} (hb : b < 2 ^ 63) : F64.neg (F64.pack s b) = s := by
  rw [F64.neg, BitVec.getLsbD, Nat.testBit_eq_decide_div_mod_eq, F64.toNat_pack s hb]
  cases s
  · exact decide_eq_false (by simp; omega)
  · exact decide_eq_true (by simp; omega)

theorem F64.magBits_pack (s : Bool) {b : Nat} (hb : b < 2 ^ 63) :
    F64.magBits (F64.pack s b) = b := by
  rw [F64.magBits, F64.toNat_pack s hb]
  split_ifs <;> omega

/-- The last bit of a packed pattern is the parity of its magnitude bits. -/
theorem F64.getLsbD_zero_pack (s : Bool) {b : Nat} (hb : b < 2 ^ 63) :
    (F64.pack s b).getLsbD 0 = decide (b % 2 = 1) := by
  rw [BitVec.getLsbD, Nat.testBit_eq_decide_div_mod_eq, F64.toNat_pack s hb, pow_zero, Nat.div_one]
  congr 2
  split_ifs <;> omega

theorem F64.unit_pos : 0 < F64.unit := by unfold F64.unit; positivity

theorem F64.natCast_unit : ((F64.unit : Nat) : Int) = 2 ^ 1074 := by
  rw [F64.unit, Nat.cast_pow, Nat.cast_ofNat]

/-! ### Signs -/

/-- u with the sign of a pattern put on it. -/
def F64.signed (neg : Bool) (u : Int) : Int := if neg then -u else u

@[simp] theorem F64.signed_false (u : Int) : F64.signed false u = u := rfl

@[simp] theorem F64.signed_true (u : Int) : F64.signed true u = -u := rfl

theorem F64.units_eq_signed (x : F64) : F64.units x = F64.signed (F64.neg x) (F64.mag x) := rfl

theorem F64.signed_signed (a b : Bool) (u : Int) :
    F64.signed a (F64.signed b u) = F64.signed (a != b) u := by
  cases a <;> cases b <;> simp

theorem F64.signed_mul (a : Bool) (u v : Int) : F64.signed a u * v = F64.signed a (u * v) := by
  cases a <;> simp

theorem F64.signed_mul_signed (a b : Bool) (u v : Int) :
    F64.signed a u * F64.signed b v = F64.signed (a != b) (u * v) := by
  cases a <;> cases b <;> simp

theorem F64.abs_signed (s : Bool) (u : Int) : |F64.signed s u| = |u| := by
  cases s <;> simp

theorem F64.signed_natAbs (k : Int) : F64.signed (decide (k < 0)) k.natAbs = k := by
  by_cases h : k < 0
  · rw [decide_eq_true h, F64.signed_true]; omega
  · rw [decide_eq_false h, F64.signed_false]; omega

/-- In a distance a sign may stand at either side. -/
theorem F64.abs_mul_sub_signed (s : Bool) (u d v : Int) :
    |u * d - F64.signed s v| = |F64.signed s u * d - v| := by
  rw [← F64.abs_signed s (F64.signed s u * d - v)]
  congr 1
  cases s
  · rfl
  · simp only [F64.signed_true]; ring

theorem F64.magBits_negate (x : F64) : F64.magBits (F64.negate x) = F64.magBits x := by
  rw [F64.magBits, F64.negate, BitVec.toNat_xor, Nat.xor_mod_two_pow]
  simp [F64.magBits]

theorem F64.neg_negate (x : F64) : F64.neg (F64.negate x) = !F64.neg x := by
  simp [F64.neg, F64.negate]

theorem F64.finite_negate (x : F64) : F64.finite (F64.negate x) = F64.finite x := by
  rw [Bool.eq_iff_iff, F64.finite_iff_magBits_lt, F64.finite_iff_magBits_lt, F64.magBits_negate]

theorem F64.units_negate (x : F64) : F64.units (F64.negate x) = -F64.units x := by
  rw [F64.units, F64.units, F64.neg_negate, F64.mag_congr (F64.magBits_negate x)]
  cases F64.neg x <;> simp

/-! ### Rounding to a multiple of the last place -/

/-- A second nearest integer makes a tie, and roundDiv takes the even one. -/
theorem F64.roundDiv_even_of_tie (n d : Nat) (hd : 0 < d) {k : Int} (hk : k ≠ F64.roundDiv n d)
    (htie : |(F64.roundDiv n d : Int) * d - n| = |k * d - n|) : F64.roundDiv n d % 2 = 0 := by
  have hd' : (0 : Int) < d := by exact_mod_cast hd
  have hr := Nat.mod_lt n hd
  have hn : (n : Int) = d * (n / d : Nat) + (n % d : Nat) := by
    exact_mod_cast (Nat.div_add_mod n d).symm
  rcases abs_eq_abs.1 htie with h | h
  · exact absurd (mul_right_cancel₀ hd'.ne' (by omega : k * d = F64.roundDiv n d * d)) hk
  · -- n/d is the midpoint of k and roundDiv n d, so the remainder is 0 or half of d.
    have hmid : 2 * ((n % d : Nat) : Int) = (F64.roundDiv n d + k - 2 * (n / d : Nat)) * d := by
      linear_combination -h - 2 * hn
    have hlow : (0 : Int) ≤ F64.roundDiv n d + k - 2 * (n / d : Nat) :=
      nonneg_of_mul_nonneg_left (by omega) hd'
    have hhigh : (F64.roundDiv n d : Int) + k - 2 * (n / d : Nat) < 2 :=
      lt_of_mul_lt_mul_right (by omega) hd'.le
    rcases (by omega : (F64.roundDiv n d : Int) + k - 2 * (n / d : Nat) = 0 ∨
        (F64.roundDiv n d : Int) + k - 2 * (n / d : Nat) = 1) with h0 | h1
    · rw [h0] at hmid
      have : F64.roundDiv n d = n / d := by rw [F64.roundDiv, if_pos (by omega)]
      omega
    · rw [h1] at hmid
      rw [F64.roundDiv, if_neg (by omega), if_neg (by omega)]
      split_ifs <;> omega

/-- Where the last place is more than one unit, n/d reaches the lower end of its binade. -/
theorem F64.binade_le (n d : Nat) (hs : F64.shiftOf n d ≠ 0) :
    2 ^ 52 * 2 ^ F64.shiftOf n d ≤ n / d := by
  unfold F64.shiftOf at *
  split_ifs at * with h
  · exact absurd rfl hs
  · have hlog : 2 ^ Nat.log2 (n / d) ≤ n / d := Nat.log2_self_le (by omega)
    rwa [← pow_add, show 52 + (Nat.log2 (n / d) - 52) = Nat.log2 (n / d) by omega]

/-- n/d lies below the upper end of its binade. -/
theorem F64.lt_binade (n d : Nat) : n / d < 2 ^ 53 * 2 ^ F64.shiftOf n d := by
  unfold F64.shiftOf
  split_ifs with h
  · simpa using h
  · have hlog : n / d < 2 ^ (Nat.log2 (n / d) + 1) := Nat.lt_log2_self
    have h53 : 53 ≤ Nat.log2 (n / d) := (Nat.le_log2 (by omega)).2 (by omega)
    rwa [← pow_add, show 53 + (Nat.log2 (n / d) - 52) = Nat.log2 (n / d) + 1 by omega]

/-- The significand that `roundMag` computes: n/d in units of its last place, rounded. -/
def F64.significand (n d : Nat) : Nat := F64.roundDiv n (d * 2 ^ F64.shiftOf n d)

theorem F64.roundMag_eq (n d : Nat) :
    F64.roundMag n d = min (F64.shiftOf n d * 2 ^ 52 + F64.significand n d) F64.infBits := rfl

theorem F64.roundMag_lt (n d : Nat) : F64.roundMag n d < 2 ^ 63 := by
  rw [F64.roundMag_eq, F64.infBits_eq]; omega

theorem F64.roundMag_zero (d : Nat) : F64.roundMag 0 d = 0 := by
  simp [F64.roundMag, F64.shiftOf, F64.roundDiv]

theorem F64.significand_le (n d : Nat) : F64.significand n d ≤ 2 ^ 53 := by
  have hlt : n / d / 2 ^ F64.shiftOf n d < 2 ^ 53 :=
    Nat.div_lt_of_lt_mul (by rw [mul_comm]; exact F64.lt_binade n d)
  have hle := F64.roundDiv_le n (d * 2 ^ F64.shiftOf n d)
  rw [← Nat.div_div_eq_div_mul] at hle
  exact hle.trans hlt

theorem F64.le_significand (n d : Nat) (hs : F64.shiftOf n d ≠ 0) : 2 ^ 52 ≤ F64.significand n d := by
  have hle : 2 ^ 52 ≤ n / d / 2 ^ F64.shiftOf n d :=
    (Nat.le_div_iff_mul_le (by positivity)).2 (F64.binade_le n d hs)
  rw [Nat.div_div_eq_div_mul] at hle
  exact hle.trans (F64.le_roundDiv _ _)

/-- A shift and a significand as `roundMag` puts them together name the magnitude m * 2^s; a carry
(m = 2^53) moves into the exponent field. -/
theorem F64.mag_of_magBits {x : F64} {s m : Nat} (hx : F64.magBits x = s * 2 ^ 52 + m)
    (hm : m ≤ 2 ^ 53) (hs : s ≠ 0 → 2 ^ 52 ≤ m) : F64.mag x = m * 2 ^ s := by
  have hexp := F64.expField_eq_magBits_div x
  have hfrac := F64.fracField_eq_magBits_mod x
  rcases (by omega : m < 2 ^ 52 ∨ (2 ^ 52 ≤ m ∧ m < 2 ^ 53) ∨ m = 2 ^ 53) with h | ⟨h, h'⟩ | rfl
  · have hs0 : s = 0 := by omega
    rw [F64.mag, if_pos (by omega), hfrac, hx, hs0, pow_zero]; omega
  · have he : F64.expField x = s + 1 := by omega
    rw [F64.mag, if_neg (by omega), he, Nat.add_sub_cancel,
      show 2 ^ 52 + F64.fracField x = m by omega]
  · have he : F64.expField x = s + 2 := by omega
    rw [F64.mag, if_neg (by omega), he, show F64.fracField x = 0 by omega,
      show s + 2 - 1 = s + 1 by omega, pow_succ]
    ring

theorem F64.mag_roundMag {x : F64} {n d : Nat} (hx : F64.magBits x = F64.roundMag n d)
    (hfin : F64.roundMag n d < F64.infBits) :
    F64.mag x = F64.significand n d * 2 ^ F64.shiftOf n d := by
  refine F64.mag_of_magBits ?_ (F64.significand_le n d) (F64.le_significand n d)
  rw [F64.roundMag_eq] at hx hfin
  omega

/-- A magnitude is a multiple of 2^s, or lies below the binade whose last place is 2^s. -/
theorem F64.dvd_mag_or_lt (x : F64) (s : Nat) : 2 ^ s ∣ F64.mag x ∨ F64.mag x < 2 ^ 52 * 2 ^ s := by
  have hf := F64.fracField_lt x
  unfold F64.mag
  split_ifs with he
  · right
    exact hf.trans_le (Nat.le_mul_of_pos_right _ (by positivity))
  · rcases le_or_gt s (F64.expField x - 1) with hs | hs
    · left
      exact (pow_dvd_pow 2 hs).mul_left _
    · right
      calc (2 ^ 52 + F64.fracField x) * 2 ^ (F64.expField x - 1)
          < 2 ^ 53 * 2 ^ (F64.expField x - 1) := by gcongr; omega
        _ = 2 ^ 52 * 2 ^ F64.expField x := by
            rw [← pow_add, ← pow_add]; congr 1; omega
        _ ≤ 2 ^ 52 * 2 ^ s := by gcongr <;> omega

theorem F64.dvd_signed_units_or_lt (a : Bool) (x : F64) (s : Nat) :
    (2 ^ s : Int) ∣ F64.signed a (F64.units x) ∨ F64.signed a (F64.units x) < 2 ^ 52 * 2 ^ s := by
  rw [F64.units_eq_signed, F64.signed_signed]
  generalize (a != F64.neg x) = b
  rcases F64.dvd_mag_or_lt x s with h | h
  · left
    have hdvd : (2 ^ s : Int) ∣ F64.mag x := by exact_mod_cast h
    cases b <;> simpa using hdvd
  · right
    have hlt : (F64.mag x : Int) < 2 ^ 52 * 2 ^ s := by exact_mod_cast h
    cases b
    · exact hlt
    · rw [F64.signed_true]; omega

/-- The rounded significand against every integer w that a finite value can be: no farther from n/d, and
even on a tie. -/
theorem F64.significand_nearest_even (n d : Nat) (hd : 0 < d) {w : Int}
    (hw : (2 ^ F64.shiftOf n d : Int) ∣ w ∨ w < 2 ^ 52 * 2 ^ F64.shiftOf n d) :
    |(F64.significand n d * 2 ^ F64.shiftOf n d : Int) * d - n| ≤ |w * d - n| ∧
    (w ≠ F64.significand n d * 2 ^ F64.shiftOf n d →
      |(F64.significand n d * 2 ^ F64.shiftOf n d : Int) * d - n| = |w * d - n| →
      F64.significand n d % 2 = 0) := by
  have hd' : 0 < d * 2 ^ F64.shiftOf n d := by positivity
  have hscale : ∀ k : Int, k * 2 ^ F64.shiftOf n d * d = k * (d * 2 ^ F64.shiftOf n d : Nat) := by
    intro k; push_cast; ring
  have hnear := F64.roundDiv_nearest n _ hd'
  rcases Classical.em ((2 ^ F64.shiftOf n d : Int) ∣ w) with ⟨k, rfl⟩ | hdvd
  · rw [mul_comm _ k, hscale, hscale]
    refine ⟨hnear k, fun hne htie => F64.roundDiv_even_of_tie n _ hd' ?_ htie⟩
    rintro rfl
    exact hne rfl
  · have hs : F64.shiftOf n d ≠ 0 := by
      intro h; rw [h] at hdvd; exact hdvd (by simp)
    have hlow : ((2 : Int) ^ 52 * 2 ^ F64.shiftOf n d) * d ≤ n := by
      exact_mod_cast (Nat.le_div_iff_mul_le hd).1 (F64.binade_le n d hs)
    have hwd : w * d < 2 ^ 52 * 2 ^ F64.shiftOf n d * d :=
      mul_lt_mul_of_pos_right (hw.resolve_left hdvd) (by exact_mod_cast hd)
    have hfar : |(F64.significand n d * 2 ^ F64.shiftOf n d : Int) * d - n| < |w * d - n| :=
      calc |(F64.significand n d * 2 ^ F64.shiftOf n d : Int) * d - n|
          ≤ |(2 ^ 52 * 2 ^ F64.shiftOf n d : Int) * d - n| := by
            rw [hscale, hscale]; exact hnear (2 ^ 52)
        _ < |w * d - n| := by
            rw [abs_of_nonpos (by omega), abs_of_nonpos (by omega)]; omega
    exact ⟨hfar.le, fun _ htie => absurd htie hfar.ne⟩

/-! ### Round to nearest, ties to even -/

/-- r is k/d units rounded to nearest, ties to even, among the finite values; distances are multiplied
by d. -/
def F64.NearestEven (r : F64) (k d : Int) : Prop :=
  ∀ z : F64, F64.finite z = true →
    |F64.units r * d - k| ≤ |F64.units z * d - k| ∧
    (F64.units z ≠ F64.units r → |F64.units r * d - k| = |F64.units z * d - k| →
      r.getLsbD 0 = false)

/-- The sign of a negative divisor may be moved to the other side. -/
theorem F64.NearestEven.signed_div {r : F64} {a b : Bool} {k d : Int}
    (h : F64.NearestEven r (F64.signed (a != b) k) d) :
    F64.NearestEven r (F64.signed a k) (F64.signed b d) := by
  have hdist : ∀ u : Int,
      |u * F64.signed b d - F64.signed a k| = |u * d - F64.signed (a != b) k| := by
    intro u
    rw [mul_comm, ← F64.abs_mul_sub_signed, F64.signed_signed, mul_comm, bne_comm]
  simpa only [F64.NearestEven, hdist] using h

theorem F64.units_pack_roundMag (s : Bool) {n d : Nat} (hfin : F64.roundMag n d < F64.infBits) :
    F64.units (F64.pack s (F64.roundMag n d)) =
      F64.signed s (F64.significand n d * 2 ^ F64.shiftOf n d) := by
  have hlt63 := F64.roundMag_lt n d
  rw [F64.units_eq_signed, F64.neg_pack s hlt63, F64.mag_roundMag (F64.magBits_pack s hlt63) hfin]
  push_cast
  rfl

/-- The lowest exponent bit has weight 2^52, so the last bit is the significand's. -/
theorem F64.roundMag_mod_two {n d : Nat} (hfin : F64.roundMag n d < F64.infBits) :
    F64.roundMag n d % 2 = F64.significand n d % 2 := by
  rw [F64.roundMag_eq] at *
  omega

/-- Every operation ends in this: the packed rounding of n/d with sign s is nearest-even to it. -/
theorem F64.nearestEven_pack_roundMag (s : Bool) {n d : Nat} (hd : 0 < d)
    (hfin : F64.finite (F64.pack s (F64.roundMag n d)) = true) :
    F64.NearestEven (F64.pack s (F64.roundMag n d)) (F64.signed s n) d := by
  have hlt63 := F64.roundMag_lt n d
  rw [F64.finite_iff_magBits_lt, F64.magBits_pack s hlt63] at hfin
  intro z _
  obtain ⟨hnear, heven⟩ := F64.significand_nearest_even n d hd (F64.dvd_signed_units_or_lt s z _)
  rw [F64.units_pack_roundMag s hfin, F64.abs_mul_sub_signed, F64.abs_mul_sub_signed,
    F64.signed_signed, bne_self_eq_false, F64.signed_false]
  refine ⟨hnear, fun hne htie => ?_⟩
  have hne' : F64.signed s (F64.units z) ≠ F64.significand n d * 2 ^ F64.shiftOf n d := by
    intro h
    rw [← h, F64.signed_signed, bne_self_eq_false] at hne
    exact hne rfl
  rw [F64.getLsbD_zero_pack s hlt63, F64.roundMag_mod_two hfin, heven hne' htie]
  rfl

/-! ### The operations on finite operands -/

theorem F64.add_eq_pack {x y : F64} (hx : F64.finite x = true) (hy : F64.finite y = true) :
    ∃ s : Bool, F64.add x y = F64.pack s (F64.roundMag (F64.units x + F64.units y).natAbs 1) ∧
      F64.signed s (F64.units x + F64.units y).natAbs = F64.units x + F64.units y := by
  simp only [F64.add, F64.isNaN_of_finite hx, F64.isNaN_of_finite hy, F64.isInf_of_finite hx,
    F64.isInf_of_finite hy, Bool.or_self, Bool.false_eq_true, if_false]
  split_ifs with h
  · refine ⟨F64.neg x && F64.neg y, ?_, ?_⟩
    · rw [h, Int.natAbs_zero, F64.roundMag_zero]; rfl
    · rw [h, Int.natAbs_zero]; cases F64.neg x && F64.neg y <;> rfl
  · exact ⟨_, rfl, F64.signed_natAbs _⟩

theorem F64.mul_eq_pack {x y : F64} (hx : F64.finite x = true) (hy : F64.finite y = true) :
    F64.mul x y =
      F64.pack (F64.neg x != F64.neg y) (F64.roundMag (F64.mag x * F64.mag y) F64.unit) := by
  simp [F64.mul, F64.isNaN_of_finite hx, F64.isNaN_of_finite hy, F64.isInf_of_finite hx,
    F64.isInf_of_finite hy]

theorem F64.div_eq_pack {x y : F64} (hx : F64.finite x = true) (hy : F64.finite y = true)
    (h0 : F64.mag y ≠ 0) :
    F64.div x y =
      F64.pack (F64.neg x != F64.neg y) (F64.roundMag (F64.mag x * F64.unit) (F64.mag y)) := by
  have hz : F64.isZero y = false := by rwa [← Bool.not_eq_true, ← F64.mag_eq_zero_iff]
  simp [F64.div, F64.isNaN_of_finite hx, F64.isNaN_of_finite hy, F64.isInf_of_finite hx,
    F64.isInf_of_finite hy, hz]

theorem F64.nearestEven_add {x y : F64} (hx : F64.finite x = true) (hy : F64.finite y = true)
    (hfin : F64.finite (F64.add x y) = true) :
    F64.NearestEven (F64.add x y) (F64.units x + F64.units y) 1 := by
  obtain ⟨s, hadd, hsum⟩ := F64.add_eq_pack hx hy
  rw [hadd] at hfin ⊢
  have := F64.nearestEven_pack_roundMag s one_pos hfin
  rwa [hsum] at this

theorem F64.nearestEven_sub {x y : F64} (hx : F64.finite x = true) (hy : F64.finite y = true)
    (hfin : F64.finite (F64.sub x y) = true) :
    F64.NearestEven (F64.sub x y) (F64.units x - F64.units y) 1 := by
  have := F64.nearestEven_add hx ((F64.finite_negate y).trans hy) hfin
  rwa [F64.units_negate, ← sub_eq_add_neg] at this

theorem F64.nearestEven_mul {x y : F64} (hx : F64.finite x = true) (hy : F64.finite y = true)
    (hfin : F64.finite (F64.mul x y) = true) :
    F64.NearestEven (F64.mul x y) (F64.units x * F64.units y) (F64.unit : Nat) := by
  rw [F64.mul_eq_pack hx hy] at hfin ⊢
  rw [F64.units_eq_signed x, F64.units_eq_signed y, F64.signed_mul_signed, ← Nat.cast_mul]
  exact F64.nearestEven_pack_roundMag _ F64.unit_pos hfin

theorem F64.nearestEven_div {x y : F64} (hx : F64.finite x = true) (hy : F64.finite y = true)
    (h0 : F64.mag y ≠ 0) (hfin : F64.finite (F64.div x y) = true) :
    F64.NearestEven (F64.div x y) (F64.units x * (F64.unit : Nat)) (F64.units y) := by
  rw [F64.div_eq_pack hx hy h0] at hfin ⊢
  rw [F64.units_eq_signed x, F64.units_eq_signed y, F64.signed_mul, ← Nat.cast_mul]
  exact (F64.nearestEven_pack_roundMag _ (Nat.pos_of_ne_zero h0) hfin).signed_div

/-! ### The obligations -/

/-- Settles O33: a sum of finite values is packed from its own sign and rounded magnitude, and `-f` is
`+f` with the opposite of the second operand. -/
theorem additionAndSubtractionRoundToNearestEven :
    Obligations.AdditionAndSubtractionRoundToNearestEven := by
  intro x y hx hy
  constructor
  · intro hfin
    simpa only [F64.NearestEven, mul_one] using F64.nearestEven_add hx hy hfin
  · intro hfin
    simpa only [F64.NearestEven, mul_one] using F64.nearestEven_sub hx hy hfin

/-- Settles O34: the product of the magnitudes over one unit, rounded, with the product's sign. -/
theorem multiplicationRoundsToNearestEven : Obligations.MultiplicationRoundsToNearestEven := by
  intro x y hx hy hfin
  have := F64.nearestEven_mul hx hy hfin
  rwa [F64.natCast_unit] at this

/-- Settles O35: the quotient of the magnitudes, rounded, with the quotient's sign. -/
theorem divisionRoundsToNearestEven : Obligations.DivisionRoundsToNearestEven := by
  intro x y hx hy h0 hfin
  have hmag : F64.mag y ≠ 0 := by
    intro h; exact h0 (by simp [F64.units, h])
  have := F64.nearestEven_div hx hy hmag hfin
  rwa [F64.natCast_unit] at this

end Sys2Proof
end

section
/-! PROOF. The register window (10 R30 to R57): what a transaction at one of its offsets reads and writes,
the bits of its words, and the result window. -/

set_option autoImplicit false

namespace Sys2Proof.Machine

/-! ### Transactions of the window -/

theorem target_of_lt {off : Nat} (h : off < 0x1000) : target off = .registers := if_pos h

theorem registerAccessOk_four {off : Nat} (h : off % 4 = 0) : registerAccessOk off .four = true := by
  simp [registerAccessOk, h]

theorem hostAccess_read_register (s : State) {off : Nat} (h : off < 0x1000) (h4 : off % 4 = 0) :
    hostAccess s .read off .four = readRegisters s off := by
  simp [hostAccess, target_of_lt h, registerAccessOk_four h4]

theorem hostAccess_write_register (s : State) (w : Word) {off : Nat} (h : off < 0x1000)
    (h4 : off % 4 = 0) : hostAccess s (.write w) off .four = writeRegisters s off w := by
  simp [hostAccess, target_of_lt h, registerAccessOk_four h4]

/-! ### The register map -/

theorem regAt_mem {off : Nat} {r : Reg} (h : regAt off = some r) : (off, r) ∈ regTable := by
  unfold regAt at h
  split at h
  · rename_i e he
    cases h
    obtain rfl : e.1 = off := by simpa using List.find?_some he
    exact List.mem_of_find?_eq_some he
  · cases h

theorem writeWindow_of_regAt {s : State} {off : Nat} {r : Reg} {v : Word} (h : regAt off = some r) :
    writeWindow s off v = writeReg s r v := by
  simp [writeWindow, h]

theorem readWindow_of_regAt {s : State} {off : Nat} {r : Reg} (h : regAt off = some r)
    (ho : off < 0x400 ∨ 0xC00 ≤ off) : readWindow s off = readReg s r := by
  rw [readWindow, if_neg (by omega), h]

theorem readWindow_of_unassigned {s : State} {off : Nat} (h : regAt off = none)
    (ho : off < 0x400 ∨ 0xC00 ≤ off) : readWindow s off = 0#32 := by
  rw [readWindow, if_neg (by omega), h]

theorem readWindow_result {s : State} {off : Nat} (h : 0x400 ≤ off ∧ off < 0xC00) :
    readWindow s off = resultWord s off := if_pos h

/-! ### Writes -/

/-- The registers a write can change something through (10 R57). -/
def Reg.writable : Reg → Bool
  | .cmd => true
  | .status => true
  | .irqEn => true
  | r => busyProtected r

theorem writeReg_of_readOnly {s : State} {r : Reg} {v : Word} (h : r.writable = false) :
    writeReg s r v = s := by
  cases r <;> simp [Reg.writable, busyProtected] at h <;> rfl

theorem writable_offset : ∀ e ∈ regTable, e.2.writable = true →
    e.1 ∈ [0x008, 0x00C, 0x014, 0x020, 0x024, 0x060, 0x064, 0x068, 0x06C] := by decide

theorem writeWindow_of_readOnly (s : State) (v : Word) {off : Nat}
    (h : off ∉ [0x008, 0x00C, 0x014, 0x020, 0x024, 0x060, 0x064, 0x068, 0x06C]) :
    writeWindow s off v = s := by
  cases hr : regAt off with
  | none => simp [writeWindow, hr]
  | some r =>
    rw [writeWindow_of_regAt hr]
    exact writeReg_of_readOnly (Bool.eq_false_of_not_eq_true fun hw =>
      h (writable_offset _ (regAt_mem hr) hw))

/-- What a write to the window can do: store into a field that only the host writes (WR_DROP among them),
issue a command, clear sticky bits, or set the interrupt enables. -/
theorem writeWindow_cases (s : State) (off : Nat) (v : Word) :
    (∃ d w h lo hi, writeWindow s off v =
      { s with wrDrop := d, cfgWidth := w, cfgHeight := h, mapMin := lo, mapMax := hi }) ∨
    writeWindow s off v = issue s v ∨ writeWindow s off v = writeStatus s v ∨
    writeWindow s off v = writeIrqEn s v := by
  cases hr : regAt off with
  | none => exact .inl ⟨_, _, _, _, _, by simp [writeWindow, hr]; rfl⟩
  | some r =>
    rw [writeWindow_of_regAt hr, writeReg]
    split
    · exact .inl ⟨_, _, _, _, _, rfl⟩
    · cases r with
      | cmd => exact .inr (.inl rfl)
      | status => exact .inr (.inr (.inl rfl))
      | irqEn => exact .inr (.inr (.inr rfl))
      | _ => exact .inl ⟨_, _, _, _, _, rfl⟩

/-- The answer to a write at an assigned offset while nothing is in flight. -/
theorem hostAccess_write_of_regAt {s : State} {w : Word} {off : Nat} (r : Reg) (hr : regAt off = some r)
    (h : off < 0x1000) (h4 : off % 4 = 0) (hb : busyProtected r = true → s.busy = false) :
    hostAccess s (.write w) off .four = { storeReg s w r with response := some .okWrite } := by
  rw [hostAccess_write_register s w h h4, writeRegisters, writeWindow_of_regAt hr, writeReg, if_neg]
  simpa using hb

/-- Settles O44: a cleared bit is `b && !true`, every other `b && !false`. -/
theorem statusWriteClearsOnlyOnes : Obligations.StatusWriteClearsOnlyOnes := by
  intro s w
  have hand : ∀ b c : Bool, (b && !c) = if c then false else b := by decide
  rw [hostAccess_write_of_regAt .status rfl (by decide) (by decide) nofun]
  simp only [storeReg, writeStatus, hand]

/-- Settles O45: an offset outside the list names no writable register, and the others store as
`storeReg` says. -/
theorem registerWritesStoreOrAreIgnored : Obligations.RegisterWritesStoreOrAreIgnored := by
  intro s w
  refine ⟨hostAccess_write_of_regAt .irqEn rfl (by decide) (by decide) nofun,
    fun off h h4 hro => ?ignored, fun hb => ?stored⟩
  case ignored =>
    rw [hostAccess_write_register s w h h4, writeRegisters, writeWindow_of_readOnly s w hro]
  case stored =>
    have hw : ∀ {off : Nat} (r : Reg), regAt off = some r → off < 0x1000 → off % 4 = 0 →
        hostAccess s (.write w) off .four = { storeReg s w r with response := some .okWrite } :=
      fun r hr h h4 => hostAccess_write_of_regAt r hr h h4 fun _ => hb
    exact ⟨hw .cfgWidth rfl (by decide) (by decide), hw .cfgHeight rfl (by decide) (by decide),
      hw .mapMinLo rfl (by decide) (by decide), hw .mapMinHi rfl (by decide) (by decide),
      hw .mapMaxLo rfl (by decide) (by decide), hw .mapMaxHi rfl (by decide) (by decide)⟩

/-! ### The words of the window, bit by bit -/

theorem getLsbD_bitAt (b : Bool) (i j : Nat) :
    (bitAt b i).getLsbD j = (b && decide (i < 32) && decide (i = j)) := by
  cases b
  · simp [bitAt]
  · simp [bitAt, ← BitVec.twoPow_eq, BitVec.getLsbD_twoPow]

theorem getElem_bitAt (b : Bool) (i : Nat) {j : Nat} (hj : j < 32) :
    (bitAt b i)[j] = (b && decide (i = j)) := by
  rw [← BitVec.getLsbD_eq_getElem, getLsbD_bitAt]
  by_cases h : i = j <;> simp [h, hj]

theorem extractLsb'_eq_zero {v : Word} {a : Nat} (h : ∀ j, a ≤ j → v.getLsbD j = false) (n : Nat) :
    v.extractLsb' a n = 0#n := by
  ext i hi
  simp [h (a + i) (by omega)]

theorem getLsbD_seqStateCode (q : SeqState) (j : Nat) (h : 2 ≤ j) :
    (seqStateCode q).getLsbD j = false := by
  have hlt : (seqStateCode q).toNat < 2 ^ 2 := by cases q <;> decide
  exact Nat.testBit_lt_two_pow (hlt.trans_le (Nat.pow_le_pow_right (by decide) h))

theorem statusWord_high (s : State) (j : Nat) (h : 11 ≤ j) : (statusWord s).getLsbD j = false := by
  have hne : ∀ i, i < 11 → i ≠ j := by omega
  simp [statusWord, getLsbD_bitAt, hne, getLsbD_seqStateCode s.seqState (j - 8) (by omega)]

theorem statusWord_seqState (s : State) :
    (statusWord s).extractLsb' 8 2 = (seqStateCode s.seqState).extractLsb' 0 2 := by
  ext i hi
  obtain rfl | rfl : i = 0 ∨ i = 1 := by omega
  · simp [statusWord, getElem_bitAt]
  · simp [statusWord, getElem_bitAt]

theorem errcodeWord_code (s : State) : (errcodeWord s).extractLsb' 0 8 = errorCodeByte s.errCode := by
  ext i hi
  simp [errcodeWord, hi, show i < 32 by omega]

theorem errcodeWord_op (s : State) : (errcodeWord s).extractLsb' 8 8 = s.errOp := by
  ext i hi
  simp [errcodeWord, show 8 + i < 32 by omega, BitVec.getLsbD_eq_getElem hi]

theorem errcodeWord_high (s : State) (j : Nat) (h : 16 ≤ j) : (errcodeWord s).getLsbD j = false := by
  simp [errcodeWord, BitVec.getLsbD_of_ge _ _ (show 8 ≤ j by omega), show 8 ≤ j - 8 by omega]

theorem irqEnWord_high (s : State) (j : Nat) (h : 2 ≤ j) : (irqEnWord s).getLsbD j = false := by
  have hne : ∀ i, i < 2 → i ≠ j := by omega
  simp [irqEnWord, getLsbD_bitAt, hne]

theorem actCfgWord_high (s : State) (j : Nat) (h : 3 ≤ j) :
    (readReg s .actCfg).getLsbD j = false := by
  have hne : ∀ i, i < 3 → i ≠ j := by omega
  simp [readReg, getLsbD_bitAt, hne]

theorem validWord_high (v : Valid) (j : Nat) (h : 9 ≤ j) : (validWord v).getLsbD j = false := by
  have hne : ∀ i, i < 9 → i ≠ j := by omega
  simp [validWord, getLsbD_bitAt, hne]

theorem hiWord_append_loWord (v : BitVec 64) : hiWord v ++ loWord v = v := by
  unfold hiWord loWord
  rw [BitVec.extractLsb'_append_extractLsb'_eq_extractLsb' (by decide)]
  simp

/-- The codes of 60 R500 as numbers, each of one error. -/
theorem errorCodeByte_eq_iff (c : ErrorCode) :
    ∀ e ∈ [(ErrorCode.noError, 0x00#8), (.illegalCmd, 0x01#8), (.seqState, 0x02#8),
        (.notConfigured, 0x03#8), (.cfgDimZero, 0x04#8), (.cfgDimAlign, 0x05#8),
        (.cfgDimRange, 0x06#8), (.storeFull, 0x07#8), (.emptyPartitionRoi, 0x08#8),
        (.emptyPartitionNroi, 0x09#8), (.seqEmpty, 0x0A#8), (.mapEmpty, 0x0B#8),
        (.mapBoundInvalid, 0x0C#8), (.mapInverted, 0x0D#8), (.mapDegenerate, 0x0E#8)],
      errorCodeByte c = e.2 ↔ c = e.1 := by
  cases c <;> decide

/-! ### The result window -/

/-- The scope, the partition and the stat that an offset of the window names (10 R50). -/
theorem resultOffset_fields (sc j : Nat) {p k : Nat} (hp : p < 4) (hk : k < 16) (hj : j < 8) :
    (resultOffset sc p k + j - 0x400) % 8 = j ∧ (resultOffset sc p k + j - 0x400) / 8 / 64 = sc ∧
    (resultOffset sc p k + j - 0x400) / 8 / 16 % 4 = p ∧
    (resultOffset sc p k + j - 0x400) / 8 % 16 = k := by
  unfold resultOffset
  omega

theorem resultWord_lo (s : State) {sc p k : Nat} (hp : p < 4) (hk : k < 16) :
    resultWord s (resultOffset sc p k) = loWord (resultEntry s sc p k) := by
  obtain ⟨hj, hsc, hpart, hstat⟩ := resultOffset_fields sc 0 hp hk (by decide)
  rw [Nat.add_zero] at hj hsc hpart hstat
  rw [resultWord, hj, hsc, hpart, hstat, if_pos (by decide)]

theorem resultWord_hi (s : State) {sc p k : Nat} (hp : p < 4) (hk : k < 16) :
    resultWord s (resultOffset sc p k + 4) = hiWord (resultEntry s sc p k) := by
  obtain ⟨hj, hsc, hpart, hstat⟩ := resultOffset_fields sc 4 hp hk (by decide)
  rw [resultWord, hj, hsc, hpart, hstat, if_neg (by decide)]

theorem resultRead_eq (s : State) {sc p k : Nat} (hs : sc < 4) (hp : p < 4) (hk : k < 16) :
    resultRead s sc p k = resultEntry s sc p k := by
  have hlo : 0x400 ≤ resultOffset sc p k ∧ resultOffset sc p k + 4 < 0xC00 := by
    unfold resultOffset; omega
  change (readWindow s (resultOffset sc p k + 4) ++ readWindow s (resultOffset sc p k) : BitVec 64) = _
  rw [readWindow_result (by omega), readWindow_result (by omega), resultWord_lo s hp hk,
    resultWord_hi s hp hk, hiWord_append_loWord]

theorem resultRow_eq (s : State) {sc p : Nat} (hs : sc < 4) (hp : p < 4) :
    resultRow s sc p = (List.range 16).map (resultEntry s sc p) :=
  List.map_congr_left fun _ hk => resultRead_eq s hs hp (List.mem_range.1 hk)

theorem FrameStats.map_stat (r : FrameStats) : (List.range 16).map r.stat = frameRow r := rfl

theorem SeqStats.map_stat (r : SeqStats) : (List.range 16).map r.stat = seqRow r := rfl

theorem SsdStats.map_stat (r : SsdStats) : (List.range 16).map r.stat = ssdRow r := rfl

/-- Settles O48: the two words at an offset are the halves of that offset's entry, and an entry is the
stat of its scope and partition. -/
theorem resultWindowLayout : Obligations.ResultWindowLayout := by
  intro s
  have row : ∀ {l : List (BitVec 64)} (sc p : Nat), sc < 4 ∧ p < 4 →
      (List.range 16).map (resultEntry s sc p) = l → resultRow s sc p = l :=
    fun sc p hb h => (resultRow_eq s hb.1 hb.2).trans h
  exact ⟨row 0 0 (by decide) (FrameStats.map_stat _), row 0 1 (by decide) (FrameStats.map_stat _),
    row 0 2 (by decide) (FrameStats.map_stat _), row 0 3 (by decide) rfl,
    row 1 0 (by decide) (FrameStats.map_stat _), row 1 1 (by decide) (FrameStats.map_stat _),
    row 1 2 (by decide) (FrameStats.map_stat _), row 1 3 (by decide) rfl,
    row 2 0 (by decide) (SeqStats.map_stat _), row 2 1 (by decide) (SeqStats.map_stat _),
    row 2 2 (by decide) (SeqStats.map_stat _), row 2 3 (by decide) rfl,
    row 3 0 (by decide) (SsdStats.map_stat _), row 3 1 (by decide) (SsdStats.map_stat _),
    row 3 2 (by decide) (SsdStats.map_stat _), row 3 3 (by decide) rfl⟩

/-! ### What every offset reads -/

theorem readable_offset : ∀ e ∈ regTable,
    e.1 ∈ [0x000, 0x004, 0x00C, 0x010, 0x014, 0x020, 0x024, 0x028, 0x02C, 0x030, 0x034, 0x038, 0x03C,
      0x040, 0x044, 0x048, 0x04C, 0x050, 0x054, 0x058, 0x060, 0x064, 0x068, 0x06C, 0x070, 0x074, 0x078,
      0x07C, 0x080] ∨ e.2 = .cmd := by decide

theorem readWindow_of_not_readable {s : State} {off : Nat} (ho : off < 0x400 ∨ 0xC00 ≤ off)
    (h : off ∉ [0x000, 0x004, 0x00C, 0x010, 0x014, 0x020, 0x024, 0x028, 0x02C, 0x030, 0x034, 0x038,
      0x03C, 0x040, 0x044, 0x048, 0x04C, 0x050, 0x054, 0x058, 0x060, 0x064, 0x068, 0x06C, 0x070, 0x074,
      0x078, 0x07C, 0x080]) : readWindow s off = 0#32 := by
  cases hr : regAt off with
  | none => exact readWindow_of_unassigned hr ho
  | some r =>
    rw [readWindow_of_regAt hr ho]
    obtain hmem | hcmd := readable_offset _ (regAt_mem hr)
    · exact absurd hmem h
    · rw [show r = .cmd from hcmd]; rfl

theorem setWidth_eq_zero_append (v : Half) : v.setWidth 32 = 0#16 ++ v :=
  BitVec.setWidth_eq_append (by decide)

theorem statusWord_bits (s : State) :
    (statusWord s).getLsbD 0 = s.busy ∧ (statusWord s).getLsbD 1 = s.done ∧
    (statusWord s).getLsbD 2 = s.err ∧ (statusWord s).getLsbD 3 = s.cmdOvr ∧
    (statusWord s).getLsbD 4 = s.rej ∧ (statusWord s).getLsbD 5 = s.wrDrop ∧
    (statusWord s).getLsbD 6 = irq s ∧ (statusWord s).getLsbD 7 = false ∧
    (statusWord s).getLsbD 10 = s.cfgValid := by
  have hseq := getLsbD_seqStateCode s.seqState 2 (by decide)
  rw [BitVec.getLsbD_eq_getElem (by decide)] at hseq
  simp [statusWord, getElem_bitAt, hseq]

theorem statusWord_seqState_eq_iff (s : State) :
    ((statusWord s).extractLsb' 8 2 = 0#2 ↔ s.seqState = .idle) ∧
    ((statusWord s).extractLsb' 8 2 = 1#2 ↔ s.seqState = .opened) ∧
    ((statusWord s).extractLsb' 8 2 = 2#2 ↔ s.seqState = .closed) ∧
    ((statusWord s).extractLsb' 8 2 = 3#2 ↔ s.seqState = .aborted) := by
  rw [statusWord_seqState]
  cases s.seqState <;> decide

theorem validWord_bits (v : Valid) :
    (validWord v).getLsbD 0 = v.frameAll ∧ (validWord v).getLsbD 1 = v.frameRoi ∧
    (validWord v).getLsbD 2 = v.frameNroi ∧ (validWord v).getLsbD 3 = false ∧
    (validWord v).getLsbD 4 = v.seqAll ∧ (validWord v).getLsbD 5 = v.seqRoi ∧
    (validWord v).getLsbD 6 = v.seqNroi ∧ (validWord v).getLsbD 7 = false ∧
    (validWord v).getLsbD 8 = v.mapValid := by
  simp [validWord, getElem_bitAt]

theorem irqEnWord_bits (s : State) :
    (irqEnWord s).getLsbD 0 = s.doneIe ∧ (irqEnWord s).getLsbD 1 = s.errIe := by
  simp [irqEnWord, getElem_bitAt]

theorem actCfgWord_bits (s : State) :
    (readReg s .actCfg).getLsbD 0 = s.cfgValid ∧ (readReg s .actCfg).getLsbD 1 = s.roiEn ∧
    (readReg s .actCfg).getLsbD 2 = s.epSkip := by
  simp [readReg, getElem_bitAt]

/-- Settles O49: each assigned offset reads its register's word, whose bits the lemmas above give; an
offset outside the list is CMD's or unassigned. -/
theorem registersReadTheirFields : Obligations.RegistersReadTheirFields := by
  intro s
  have reads : ∀ (off : Nat) (r : Reg), regAt off = some r → off < 0x400 →
      readWindow s off = readReg s r := fun _ _ h ho => readWindow_of_regAt h (.inl ho)
  have hstatus : readWindow s 0x00C = statusWord s := reads _ .status rfl (by decide)
  have herrcode : readWindow s 0x010 = errcodeWord s := reads _ .errcode rfl (by decide)
  have hirqEn : readWindow s 0x014 = irqEnWord s := reads _ .irqEn rfl (by decide)
  have hvalid : readWindow s 0x058 = validWord s.valid := reads _ .valid rfl (by decide)
  rw [hstatus, herrcode, hirqEn, reads 0x030 .actCfg rfl (by decide), hvalid]
  refine ⟨?bus, reads _ .id rfl (by decide), reads _ .version rfl (by decide),
    reads _ .cmd rfl (by decide), ?status, ?errcode, ?irqEn, ?width, ?height,
    reads _ .actDim rfl (by decide), reads _ .actGrid rfl (by decide), ?actCfg,
    reads _ .frames rfl (by decide), reads _ .roiFrames rfl (by decide),
    reads _ .nroiFrames rfl (by decide), reads _ .capFrameBytes rfl (by decide),
    reads _ .capMaskBytes rfl (by decide), reads _ .capStoreEntries rfl (by decide),
    reads _ .storeCount rfl (by decide), reads _ .frameBlocks rfl (by decide),
    reads _ .frameRoiBlocks rfl (by decide), ?valid, ?mapMin, ?mapMax, ?mapMinEff, ?mapMaxEff,
    reads _ .mapCount rfl (by decide), ?unassigned⟩
  case bus =>
    intro off h h4
    rw [hostAccess_read_register s h h4, readRegisters]
  case status =>
    obtain ⟨h0, h1, h2, h3, h4, h5, h6, h7, h10⟩ := statusWord_bits s
    obtain ⟨hidle, hopened, hclosed, haborted⟩ := statusWord_seqState_eq_iff s
    exact ⟨h0, h1, h2, h3, h4, h5, h6, h7, hidle, hopened, hclosed, haborted, h10,
      extractLsb'_eq_zero (statusWord_high s) 21⟩
  case errcode =>
    rw [errcodeWord_code]
    exact ⟨errorCodeByte_eq_iff _, errcodeWord_op s, extractLsb'_eq_zero (errcodeWord_high s) 16⟩
  case irqEn =>
    obtain ⟨h0, h1⟩ := irqEnWord_bits s
    exact ⟨h0, h1, extractLsb'_eq_zero (irqEnWord_high s) 30⟩
  case width => rw [reads 0x020 .cfgWidth rfl (by decide), readReg, setWidth_eq_zero_append]
  case height => rw [reads 0x024 .cfgHeight rfl (by decide), readReg, setWidth_eq_zero_append]
  case actCfg =>
    obtain ⟨h0, h1, h2⟩ := actCfgWord_bits s
    exact ⟨h0, h1, h2, extractLsb'_eq_zero (actCfgWord_high s) 29⟩
  case valid =>
    obtain ⟨h0, h1, h2, h3, h4, h5, h6, h7, h8⟩ := validWord_bits s.valid
    exact ⟨h0, h1, h2, h3, h4, h5, h6, h7, h8, extractLsb'_eq_zero (validWord_high s.valid) 23⟩
  case mapMin =>
    rw [reads 0x064 .mapMinHi rfl (by decide), reads 0x060 .mapMinLo rfl (by decide)]
    exact hiWord_append_loWord _
  case mapMax =>
    rw [reads 0x06C .mapMaxHi rfl (by decide), reads 0x068 .mapMaxLo rfl (by decide)]
    exact hiWord_append_loWord _
  case mapMinEff =>
    rw [reads 0x074 .mapMinEffHi rfl (by decide), reads 0x070 .mapMinEffLo rfl (by decide)]
    exact hiWord_append_loWord _
  case mapMaxEff =>
    rw [reads 0x07C .mapMaxEffHi rfl (by decide), reads 0x078 .mapMaxEffLo rfl (by decide)]
    exact hiWord_append_loWord _
  case unassigned => exact fun off ho hoff => readWindow_of_not_readable ho hoff

/-! ### The window after reset -/

theorem FrameStats.stat_default (k : Nat) : FrameStats.stat {} k = 0#64 := by
  unfold FrameStats.stat; split <;> rfl

theorem SeqStats.stat_default (k : Nat) : SeqStats.stat {} k = 0#64 := by
  unfold SeqStats.stat; split <;> rfl

theorem SsdStats.stat_default (k : Nat) : SsdStats.stat {} k = 0#64 := by
  unfold SsdStats.stat; split <;> rfl

theorem resultEntry_powerOn (p : Params) (sc part k : Nat) :
    resultEntry (State.powerOn p) sc part k = 0#64 := by
  unfold resultEntry
  split
  case h_13 => rfl
  all_goals
    simp only [State.powerOn, FrameStats.stat_default, SeqStats.stat_default, SsdStats.stat_default]

theorem resultWord_powerOn (p : Params) (off : Nat) : resultWord (State.powerOn p) off = 0#32 := by
  unfold resultWord
  rw [resultEntry_powerOn]
  split <;> rfl

/-- The registers that do not read 0 after reset (10 R64). -/
def Reg.constant : Reg → Bool
  | .id => true
  | .version => true
  | .capFrameBytes => true
  | .capMaskBytes => true
  | .capStoreEntries => true
  | _ => false

theorem readReg_powerOn (p : Params) {r : Reg} (h : r.constant = false) :
    readReg (State.powerOn p) r = 0#32 := by
  cases r <;> simp [Reg.constant] at h <;>
    simp [readReg, State.powerOn, statusWord, errcodeWord, irqEnWord, validWord, bitAt, irq, seqStateCode,
      errorCodeByte, loWord, hiWord]

theorem constant_offset : ∀ e ∈ regTable, e.2.constant = true →
    e.1 ∈ [0x000, 0x004, 0x040, 0x044, 0x048] := by decide

theorem readWindow_powerOn (p : Params) {off : Nat} (h : off ∉ [0x000, 0x004, 0x040, 0x044, 0x048]) :
    readWindow (State.powerOn p) off = 0#32 := by
  unfold readWindow
  split
  · exact resultWord_powerOn p off
  · split
    · rename_i r hr
      exact readReg_powerOn p (Bool.eq_false_of_not_eq_true fun hc =>
        h (constant_offset _ (regAt_mem hr) hc))
    · rfl

/-- Settles O53: outside the five constants' offsets every register and every result entry is at its
reset value 0. -/
theorem resetRegisterValues : Obligations.ResetRegisterValues := by
  intro p
  refine ⟨rfl, fun off => ?_⟩
  have reads : ∀ (o : Nat) (r : Reg), regAt o = some r → o < 0x400 →
      readWindow (State.powerOn p) o = readReg (State.powerOn p) r :=
    fun _ _ h ho => readWindow_of_regAt h (.inl ho)
  split_ifs with h0 h4 h40 h44 h48
  · rw [h0]; exact reads _ .id rfl (by decide)
  · rw [h4]; exact reads _ .version rfl (by decide)
  · rw [h40]; exact reads _ .capFrameBytes rfl (by decide)
  · rw [h44]; exact reads _ .capMaskBytes rfl (by decide)
  · rw [h48]; exact reads _ .capStoreEntries rfl (by decide)
  · exact readWindow_powerOn p (by simp [h0, h4, h40, h44, h48])

end Sys2Proof.Machine
end

section
/-! PROOF. The invariant: it holds after reset, and every event and every command keeps it. Each update of
the state carries over the clauses on the fields it does not write, and owes only the others. -/

set_option autoImplicit false

namespace Sys2Proof.Machine

/-! ### Reset -/

theorem inv_of_resetRegisters (s : State) (hp : s.params.Legal) (hm : Memory.wf s.mem = true) :
    Inv (resetRegisters s) := by
  constructor
  case params_legal => exact hp
  case memory_canonical => exact hm
  all_goals simp

theorem inv_resetRegisters {s : State} (h : Inv s) : Inv (resetRegisters s) :=
  inv_of_resetRegisters s h.params_legal h.memory_canonical

theorem inv_hardReset {s : State} (h : Inv s) : Inv (hardReset s) :=
  inv_of_resetRegisters { s with mem := [], resets := s.resets + 1, response := none }
    h.params_legal rfl

/-- Settles O55: the state after power-on is a reset of itself with an empty memory. -/
theorem resetMeetsInv : Obligations.ResetMeetsInv :=
  fun p hp => inv_of_resetRegisters (State.powerOn p) hp (powerOn_mem_wf p)

/-! ### Acceptance, completion and the error commit -/

/-- `Inv` leaves the sticky bits, the enables, the staged fields and the host's side free. -/
theorem inv_withFree {s : State} (h : Inv s) (o r w di ei : Bool) (cw ch : Half) (lo hi : F64)
    (n : Nat) (q : List HostEvent) (a : Option Response) :
    Inv { s with
      cmdOvr := o, rej := r, wrDrop := w, doneIe := di, errIe := ei, cfgWidth := cw, cfgHeight := ch,
      mapMin := lo, mapMax := hi, draws := n, inbox := q, response := a } :=
  { h with config_legal := fun hc => { h.config_legal hc with } }

theorem inv_withInbox {s : State} (h : Inv s) (q : List HostEvent) : Inv (withInbox s q) :=
  inv_withFree h ..

theorem inv_withResponse {s : State} (h : Inv s) (a : Option Response) :
    Inv { s with response := a } :=
  inv_withFree h ..

theorem inv_withMem {s : State} (h : Inv s) {m : Memory} (hm : Memory.wf m = true) :
    Inv { s with mem := m } :=
  { h with
    memory_canonical := hm
    config_legal := fun hc => { h.config_legal hc with } }

theorem inv_accept {s : State} (h : Inv s) {w : Word} (hw : s.err = false ∨ acceptedUnderErr w = true) :
    Inv (accept s w) :=
  { h with
    config_legal := fun hc => { h.config_legal hc with }
    busy_not_done := by simp
    busy_under_error := by
      intro _ he
      exact hw.resolve_left (by simpa using he) }

theorem inv_issue {s : State} (h : Inv s) (w : Word) : Inv (issue s w) := by
  obtain ⟨_, heq⟩ | ⟨_, _, _, heq⟩ | ⟨_, hw, heq⟩ := issue_cases s w
  · rw [heq]; exact inv_withFree h ..
  · rw [heq]; exact inv_withFree h ..
  · rw [heq]; exact inv_accept h hw

theorem inv_writeStatus {s : State} (h : Inv s) (v : Word) : Inv (writeStatus s v) :=
  { h with
    config_legal := fun hc => { h.config_legal hc with }
    busy_not_done := fun hb => by simp [h.busy_not_done hb] }

theorem inv_complete {s : State} (h : Inv s) : Inv (complete s) :=
  { h with
    config_legal := fun hc => { h.config_legal hc with }
    busy_not_done := by simp
    busy_under_error := by simp }

theorem inv_raiseError {s : State} (h : Inv s) {c : ErrorCode} (hc : c ≠ .noError) :
    Inv (raiseError s c) :=
  { h with
    config_legal := fun hc => { h.config_legal hc with }
    error_recorded := by simp [hc]
    no_error_no_op := by simp
    busy_not_done := by simp
    busy_under_error := by simp }

theorem inv_clearErrors {s : State} (h : Inv s) : Inv (clearErrors s) :=
  { h with
    config_legal := fun hc => { h.config_legal hc with }
    error_recorded := by simp
    no_error_no_op := by simp
    busy_under_error := by simp }

/-! ### The bus -/

theorem inv_writeWindow {s : State} (h : Inv s) (off : Nat) (v : Word) : Inv (writeWindow s off v) := by
  obtain ⟨d, w, ht, lo, hi, heq⟩ | heq | heq | heq := writeWindow_cases s off v
  · rw [heq]; exact inv_withFree h ..
  · rw [heq]; exact inv_issue h v
  · rw [heq]; exact inv_writeStatus h v
  · rw [heq]; exact inv_withFree h ..

theorem inv_writeBuffer {s : State} (h : Inv s) (sp : Space) (boff : Nat) (sz : Size) (w : Word) :
    Inv (writeBuffer s sp boff sz w) := by
  unfold writeBuffer
  split
  · exact inv_withFree h ..
  · exact inv_withResponse (inv_withMem h (writeLE_wf _ _ _ _ h.memory_canonical)) _

theorem inv_hostAccess {s : State} (h : Inv s) (a : Access) (off : Nat) (sz : Size) :
    Inv (hostAccess s a off sz) := by
  obtain heq | ⟨-, -, heq⟩ | ⟨w, -, -, heq⟩ | ⟨_, _, -, -, -, heq⟩ | ⟨sp, boff, w, -, -, -, -, heq⟩ :=
    hostAccess_cases s a off sz
  · rw [heq]; exact inv_withResponse h _
  · rw [heq]; exact inv_withResponse h _
  · rw [heq]; exact inv_withResponse (inv_writeWindow h off w) _
  · rw [heq]; exact inv_withFree h ..
  · rw [heq]; exact inv_writeBuffer h sp boff sz w

/-! ### What the commands' checks leave -/

theorem configCheck_ne_noError (s : State) (r : Bool) : configCheck s r ≠ some .noError := by
  unfold configCheck; split_ifs <;> simp

theorem frameCheck_ne_noError (s : State) : frameCheck s ≠ some .noError := by
  unfold frameCheck; split_ifs <;> simp

theorem seqFinishCheck_ne_noError (s : State) : seqFinishCheck s ≠ some .noError := by
  unfold seqFinishCheck; split_ifs <;> simp

theorem mapCheck_ne_noError (s : State) (n x : Bool) : mapCheck s n x ≠ some .noError := by
  unfold mapCheck; split_ifs <;> simp

theorem boundCheck_ne_noError (lo hi : F64) : boundCheck lo hi ≠ some .noError := by
  unfold boundCheck; split_ifs <;> simp

theorem configCheck_eq_none {s : State} {r : Bool} (h : configCheck s r = none) :
    (s.cfgWidth ≠ 0 ∧ s.cfgHeight ≠ 0) ∧ (s.cfgWidth.toNat % 16 = 0 ∧ s.cfgHeight.toNat % 16 = 0) ∧
    overCapacity s.params r s.cfgWidth.toNat s.cfgHeight.toNat = false := by
  unfold configCheck at h
  split_ifs at h with hopen hzero halign hcap
  exact ⟨not_or.1 hzero, by simpa using halign, Bool.eq_false_of_not_eq_true hcap⟩

theorem overCapacity_eq_false {p : Params} {r : Bool} {w h : Nat} (hc : overCapacity p r w h = false) :
    w * h * 3 / 2 ≤ p.frameBufBytes ∧ stagedBlocks w h ≤ p.storeEntries ∧
    (r = true → stagedBlocks w h ≤ p.maskBufBytes) := by
  simp only [overCapacity, Bool.or_eq_false_iff, decide_eq_false_iff_not, Nat.not_lt] at hc
  obtain ⟨⟨hframe, hstore⟩, hmask⟩ := hc
  exact ⟨hframe, hstore, fun hr => by simpa [hr] using hmask⟩

/-- An error of FRAME beyond SEQ_STATE's is raised in an open sequence. -/
theorem frameCheck_eq_some {s : State} {c : ErrorCode} (h : frameCheck s = some c) :
    (s.seqState ≠ .opened ∧ fatalForSequence c = false) ∨
    (s.seqState = .opened ∧ fatalForSequence c = true) := by
  unfold frameCheck at h
  split_ifs at h with hopen <;> cases h
  · exact .inl ⟨hopen, rfl⟩
  · exact .inr ⟨not_not.1 hopen, rfl⟩
  · exact .inr ⟨not_not.1 hopen, rfl⟩
  · exact .inr ⟨not_not.1 hopen, rfl⟩

theorem frameCheck_eq_none {s : State} (h : frameCheck s = none) :
    s.seqState = .opened ∧ s.storeCount.toNat + frameBlockCount s ≤ s.params.storeEntries := by
  unfold frameCheck at h
  split_ifs at h with hopen hfull
  exact ⟨not_not.1 hopen, Nat.not_lt.1 hfull⟩

theorem seqFinishCheck_eq_none {s : State} (h : seqFinishCheck s = none) :
    s.seqState = .opened ∧ s.frames ≠ 0 := by
  unfold seqFinishCheck at h
  split_ifs at h with hopen hempty
  exact ⟨not_not.1 hopen, hempty⟩

theorem mapCheck_eq_none {s : State} {n x : Bool} (h : mapCheck s n x = none) :
    s.seqState = .closed := by
  unfold mapCheck at h
  split_ifs at h with hclosed
  exact not_not.1 hclosed

/-! ### The configuration -/

theorem configLegal_latchConfig {s : State} {r : Bool} (h : configCheck s r = none) (e : Bool) :
    ConfigLegal (latchConfig s r e) := by
  obtain ⟨⟨hw, hh⟩, ⟨hw16, hh16⟩, hcap⟩ := configCheck_eq_none h
  obtain ⟨hframe, hstore, hmask⟩ := overCapacity_eq_false hcap
  have sixteenth : ∀ v : Half, (BitVec.ofNat 16 (v.toNat / 16)).toNat = v.toNat / 16 := fun v => by
    have := v.isLt
    rw [BitVec.toNat_ofNat, Nat.mod_eq_of_lt (by omega)]
  have hblocks : frameBlockCount (latchConfig s r e) = stagedBlocks s.cfgWidth.toNat s.cfgHeight.toNat := by
    simp only [frameBlockCount, latchConfig_nbw, latchConfig_nbh, sixteenth, stagedBlocks]
  exact {
    width_pos := BitVec.toNat_pos_of_ne_zero hw
    height_pos := BitVec.toNat_pos_of_ne_zero hh
    width_aligned := hw16
    height_aligned := hh16
    columns := sixteenth _
    rows := sixteenth _
    frame_fits := hframe
    blocks_fit := hblocks ▸ hstore
    mask_fits := fun hr => hblocks ▸ hmask hr }

theorem frameBlockCount_pos {s : State} (h : ConfigLegal s) : 0 < frameBlockCount s := by
  have := h.width_pos
  have := h.height_pos
  have := h.width_aligned
  have := h.height_aligned
  have hcols : 0 < s.nbw.toNat := by rw [h.columns]; omega
  have hrows : 0 < s.nbh.toNat := by rw [h.rows]; omega
  exact Nat.mul_pos hcols hrows

theorem inv_latchConfig {s : State} (h : Inv s) {r : Bool} (hc : configCheck s r = none) (e : Bool) :
    Inv (latchConfig s r e) :=
  { h with
    config_legal := fun _ => configLegal_latchConfig hc e
    sequence_configured := by simp }

/-! ### The sequence commands -/

theorem inv_openSequence {s : State} (h : Inv s) (hc : s.cfgValid = true) : Inv (openSequence s) :=
  { h with
    config_legal := fun hc => { h.config_legal hc with }
    sequence_configured := fun _ => hc
    store_fits := by simp
    frames_stored := by simp
    closed_has_frames := by simp
    roi_frames_le := by simp
    nroi_frames_le := by simp
    map_closed := by simp
    map_count := by simp
    seq_valid := by simp
    frame_valid := by simp
    frame_roi_zero := by simp
    frame_nroi_zero := by simp
    seq_roi_zero := by simp
    seq_nroi_zero := by simp }

theorem seqPartStats_false (m : FrameStats) (n : Nat) : seqPartStats false m n = {} := rfl

theorem inv_closeSequence {s : State} (h : Inv s) (hc : seqFinishCheck s = none) :
    Inv (closeSequence s) := by
  obtain ⟨hopen, hframes⟩ := seqFinishCheck_eq_none hc
  have hcfg : s.cfgValid = true := h.sequence_configured (by simp [hopen])
  exact { h with
    config_legal := fun hc => { h.config_legal hc with }
    sequence_configured := fun _ => hcfg
    closed_has_frames := fun _ => BitVec.toNat_pos_of_ne_zero hframes
    map_closed := by simp
    seq_valid := by simp
    seq_roi_zero := fun hv => by
      have hv : seqPartValid s s.roiFrames = false := hv
      simp [seqResults, hv, seqPartStats_false]
    seq_nroi_zero := fun hv => by
      have hv : seqPartValid s s.nroiFrames = false := hv
      simp [seqResults, hv, seqPartStats_false] }

/-! ### FRAME -/

/-- In an open sequence no map is valid and no sequence result is. -/
theorem Inv.not_valid_of_opened {s : State} (h : Inv s) (ho : s.seqState = .opened) :
    s.valid.mapValid = false ∧ s.valid.seqAll = false := by
  constructor
  · exact Bool.eq_false_of_not_eq_true fun hv => by simpa [ho] using h.map_closed hv
  · exact Bool.eq_false_of_not_eq_true fun hv => by simpa [ho] using h.seq_valid.1 hv

theorem inv_abort {s : State} (h : Inv s) (ho : s.seqState = .opened) :
    Inv { s with seqState := .aborted } := by
  obtain ⟨hmap, hseq⟩ := h.not_valid_of_opened ho
  exact { h with
    config_legal := fun hc => { h.config_legal hc with }
    sequence_configured := fun _ => h.sequence_configured (by simp [ho])
    closed_has_frames := by simp
    map_closed := by simp [hmap]
    seq_valid := by simp [hseq] }

theorem inv_abortIfFatal {s : State} (h : Inv s) {c : ErrorCode} (hc : frameCheck s = some c) :
    Inv (abortIfFatal s c) := by
  unfold abortIfFatal
  obtain ⟨-, hf⟩ | ⟨ho, hf⟩ := frameCheck_eq_some hc
  · rw [hf]; exact h
  · rw [hf]; exact inv_abort h ho

theorem partitionStats_false (p : PlaneTotals) (n : Nat) : partitionStats false p n = {} := rfl

/-- STORE_COUNT after FRAME does not wrap: it stays within STORE_ENTRIES (43 R351). -/
theorem toNat_commitFrame_storeCount {s : State} (h : Inv s) (hc : frameCheck s = none) :
    (commitFrame s).storeCount.toNat = s.storeCount.toNat + frameBlockCount s := by
  obtain ⟨_, hfit⟩ := frameCheck_eq_none hc
  obtain ⟨_, _, _, _, _, _, hmax⟩ := h.params_legal
  rw [commitFrame_storeCount, BitVec.toNat_add, BitVec.toNat_ofNat]
  omega

theorem toNat_frames_succ {s : State} (h : Inv s) :
    (s.frames + 1#32).toNat = s.frames.toNat + 1 := by
  have := h.frames_stored
  have := h.store_fits
  obtain ⟨_, _, _, _, _, _, hmax⟩ := h.params_legal
  rw [BitVec.toNat_add, BitVec.toNat_ofNat]
  omega

theorem toNat_countIf_le {v : Bool} {n m : Word} (h : n.toNat ≤ m.toNat)
    (hm : (m + 1#32).toNat = m.toNat + 1) : (countIf v n).toNat ≤ (m + 1#32).toNat := by
  have := (m + 1#32).isLt
  unfold countIf
  split
  · rw [hm, BitVec.toNat_add, BitVec.toNat_ofNat]; omega
  · omega

theorem inv_commitFrame {s : State} (h : Inv s) (hc : frameCheck s = none) : Inv (commitFrame s) := by
  obtain ⟨ho, hfit⟩ := frameCheck_eq_none hc
  obtain ⟨hmap, hseq⟩ := h.not_valid_of_opened ho
  have hcount := toNat_commitFrame_storeCount h hc
  have hsucc := toNat_frames_succ h
  have hpos := frameBlockCount_pos (h.config_legal (h.sequence_configured (by simp [ho])))
  exact { h with
    memory_canonical := writeEntries_wf _ _ _ h.memory_canonical
    config_legal := fun hc => { h.config_legal hc with }
    store_fits := by rw [hcount]; exact hfit
    frames_stored := by
      have := h.frames_stored
      rw [hcount, commitFrame_frames, hsucc]; omega
    closed_has_frames := by simp [ho]
    roi_frames_le := toNat_countIf_le h.roi_frames_le hsucc
    nroi_frames_le := toNat_countIf_le h.nroi_frames_le hsucc
    map_closed := by simp [hmap]
    map_count := by simpa [hmap] using h.map_count
    frame_valid := by
      rw [commitFrame_frames, hsucc]; simp
    frame_roi_zero := fun hv => by
      have hv : roiValid s = false := hv
      simp [frameResults, hv, partitionStats_false]
    frame_nroi_zero := fun hv => by
      have hv : nroiValid s = false := hv
      simp [frameResults, hv, partitionStats_false] }

/-! ### MAP -/

theorem inv_boundErrorWrites {s : State} (h : Inv s) (lo hi : F64) : Inv (boundErrorWrites s lo hi) :=
  { h with
    config_legal := fun hc => { h.config_legal hc with }
    map_closed := by simp
    map_count := by simp }

theorem inv_commitMap {s : State} (h : Inv s) (hc : s.seqState = .closed) (lo hi : F64) :
    Inv (commitMap s lo hi) :=
  { h with
    memory_canonical := writeBytes_wf _ _ _ h.memory_canonical
    config_legal := fun hc => { h.config_legal hc with }
    map_closed := fun _ => hc
    map_count := by simp }

/-! ### Every command and every step -/

theorem inv_exec {i : Instr} {s t : State} (h : Inv s) (he : exec i s = .next t) : Inv t := by
  cases i with
  | nop => cases he; exact inv_complete h
  | config r e =>
    obtain ⟨c, hc, rfl⟩ | ⟨hc, rfl⟩ := execConfig_cases he
    · exact inv_raiseError h fun h0 => configCheck_ne_noError s r (h0 ▸ hc)
    · exact inv_complete (inv_latchConfig h hc e)
  | seqStart =>
    obtain ⟨-, rfl⟩ | ⟨hc, rfl⟩ := execSeqStart_cases he
    · exact inv_raiseError h (by decide)
    · exact inv_complete (inv_openSequence h hc)
  | frame =>
    obtain ⟨c, hc, rfl⟩ | ⟨hc, rfl⟩ := execFrame_cases he
    · exact inv_raiseError (inv_abortIfFatal h hc) fun h0 => frameCheck_ne_noError s (h0 ▸ hc)
    · exact inv_complete (inv_commitFrame h hc)
  | seqFinish =>
    obtain ⟨c, hc, rfl⟩ | ⟨hc, rfl⟩ := execSeqFinish_cases he
    · exact inv_raiseError h fun h0 => seqFinishCheck_ne_noError s (h0 ▸ hc)
    · exact inv_complete (inv_closeSequence h hc)
  | map n x =>
    obtain ⟨c, hc, rfl⟩ | ⟨hc, c, hb, rfl⟩ | ⟨hc, hb, rfl⟩ := execMap_cases he
    · exact inv_raiseError h fun h0 => mapCheck_ne_noError s n x (h0 ▸ hc)
    · exact inv_raiseError (inv_boundErrorWrites h _ _) fun h0 => boundCheck_ne_noError _ _ (h0 ▸ hb)
    · exact inv_complete (inv_commitMap h (mapCheck_eq_none hc) _ _)
  | clearErr => cases he; exact inv_complete (inv_clearErrors h)
  | softReset => cases he; exact inv_complete (inv_resetRegisters h)

theorem inv_engineStep {s t : State} (h : Inv s) (he : engineStep s = .next t) : Inv t := by
  obtain ⟨-, rfl⟩ | ⟨-, i, -, hi⟩ | ⟨-, -, rfl⟩ := engineStep_cases he
  · exact h
  · exact inv_exec h hi
  · exact inv_raiseError h (by decide)

/-- Settles O56: the engine's step, a transaction and a reset each keep the invariant. -/
theorem stepKeepsInv : Obligations.StepKeepsInv := by
  intro s t h hstep
  obtain ⟨-, he⟩ | ⟨q, -, he⟩ | ⟨x, q, -, hx⟩ | ⟨q, -, rfl⟩ := step_cases hstep
  · exact inv_engineStep h he
  · exact inv_engineStep (inv_withInbox h q) he
  · obtain ⟨-, rfl⟩ := busTransaction_cases hx
    exact inv_hostAccess (inv_withInbox h q) _ _ _
  · exact inv_hardReset (inv_withInbox h q)

end Sys2Proof.Machine
end

section
/-! PROOF. Which commands move SEQ_STATE (10 R63). -/

set_option autoImplicit false

namespace Sys2Proof.Machine

theorem abortIfFatal_of_fatal {s : State} {c : ErrorCode} (h : fatalForSequence c = true) :
    abortIfFatal s c = { s with seqState := .aborted } := by
  simp [abortIfFatal, h]

theorem abortIfFatal_of_not_fatal {s : State} {c : ErrorCode} (h : fatalForSequence c = false) :
    abortIfFatal s c = s := by
  simp [abortIfFatal, h]

/-- Settles O10: each command's success and each of its errors, by the commands' case lemmas. -/
theorem onlyListedCommandsMoveSeqState : Obligations.OnlyListedCommandsMoveSeqState := by
  intro i s t he
  cases i with
  | nop => cases he; exact ⟨.inl rfl, nofun, nofun, nofun⟩
  | config r e =>
    refine ⟨.inl ?_, nofun, nofun, nofun⟩
    obtain ⟨c, -, rfl⟩ | ⟨-, rfl⟩ := execConfig_cases he <;> rfl
  | seqStart =>
    obtain ⟨-, rfl⟩ | ⟨-, rfl⟩ := execSeqStart_cases he
    · exact ⟨.inl rfl, fun _ _ hok => by simp at hok, nofun, nofun⟩
    · exact ⟨.inr (.inl ⟨rfl, rfl⟩), fun _ _ _ => rfl, nofun, nofun⟩
  | frame =>
    refine ⟨?_, nofun, nofun, nofun⟩
    obtain ⟨c, hc, rfl⟩ | ⟨-, rfl⟩ := execFrame_cases he
    · obtain ⟨-, hf⟩ | ⟨ho, hf⟩ := frameCheck_eq_some hc
      · rw [abortIfFatal_of_not_fatal hf]; exact .inl rfl
      · rw [abortIfFatal_of_fatal hf]; exact .inr (.inr (.inr (.inl ⟨rfl, ho, rfl, rfl⟩)))
    · exact .inl rfl
  | seqFinish =>
    obtain ⟨c, -, rfl⟩ | ⟨hc, rfl⟩ := execSeqFinish_cases he
    · exact ⟨.inl rfl, nofun, fun _ _ hok => by simp at hok, nofun⟩
    · obtain ⟨ho, -⟩ := seqFinishCheck_eq_none hc
      exact ⟨.inr (.inr (.inl ⟨rfl, ho, rfl⟩)), nofun, fun _ _ _ => ⟨ho, rfl⟩, nofun⟩
  | map n x =>
    refine ⟨.inl ?_, nofun, nofun, nofun⟩
    obtain ⟨c, -, rfl⟩ | ⟨-, c, -, rfl⟩ | ⟨-, -, rfl⟩ := execMap_cases he <;> rfl
  | clearErr => cases he; exact ⟨.inl rfl, nofun, nofun, nofun⟩
  | softReset =>
    cases he
    exact ⟨.inr (.inr (.inr (.inr ⟨rfl, rfl⟩))), nofun, nofun, fun _ => rfl⟩

end Sys2Proof.Machine
end

section
/-! PROOF. Bits [31:24] of every valid SSD_STORE entry are 0 (10 R60): FRAME appends luma SSDs of 256
samples, which fit 24 bits, and nothing else writes the stored entries or moves STORE_COUNT up. -/

set_option autoImplicit false

namespace Sys2Proof.Machine

/-! ### Little-endian reads -/

theorem memRead_congr {t : State} (s : State) {sp : Space} {off n : Nat}
    (h : ∀ j, j < n → readByte t sp (off + j) = readByte s sp (off + j)) :
    memRead t sp off n = memRead s sp off n := by
  induction n generalizing off with
  | zero => rfl
  | succ n ih =>
    have htail : memRead t sp (off + 1) n = memRead s sp (off + 1) n :=
      ih fun j hj => by simpa only [Nat.add_right_comm, Nat.add_assoc] using h (j + 1) (by omega)
    have hhead : readByte t sp off = readByte s sp off := h 0 (by omega)
    rw [memRead, memRead, hhead, htail]

theorem memRead_of_bytes {s : State} {sp : Space} {off n v : Nat}
    (h : ∀ j, j < n → readByte s sp (off + j) = BitVec.ofNat 8 (v / 256 ^ j)) :
    memRead s sp off n = v % 256 ^ n := by
  induction n generalizing off v with
  | zero => simp [memRead, Nat.mod_one]
  | succ n ih =>
    have htail : memRead s sp (off + 1) n = v / 256 % 256 ^ n := ih fun j hj => by
      rw [Nat.add_assoc, Nat.add_comm 1 j, h (j + 1) (by omega), Nat.div_div_eq_div_mul, pow_succ']
    have hhead : readByte s sp off = BitVec.ofNat 8 v := by simpa using h 0 (by omega)
    rw [memRead, hhead, htail, BitVec.toNat_ofNat, pow_succ' 256 n, Nat.mod_mul]

/-! ### A luma SSD fits 24 bits -/

theorem sqDiff_le {r t : Nat} (hr : r < 256) (ht : t < 256) : sqDiff r t ≤ 255 * 255 := by
  have hlo : -255 ≤ (r : Int) - t := by omega
  have hhi : (r : Int) - t ≤ 255 := by omega
  have hsq : ((r : Int) - t) * (r - t) ≤ 255 * 255 := by nlinarith
  unfold sqDiff
  omega

theorem windowSsd_le {ref tst : Nat → Nat} (hr : ∀ o, ref o < 256) (ht : ∀ o, tst o < 256)
    (top stride n : Nat) : windowSsd ref tst top stride n ≤ n * (n * (255 * 255)) :=
  sumTo_le_mul fun _ _ => sumTo_le_mul fun _ _ => sqDiff_le (hr _) (ht _)

theorem blockSsdY_lt (s : State) (b : Nat) : blockSsdY s b < 2 ^ 24 :=
  (windowSsd_le (fun _ => (readByte s .ref _).isLt) (fun _ => (readByte s .tst _).isLt) _ _ 16).trans_lt
    (by decide)

/-! ### Updates that keep the stored entries -/

theorem storeTopClear_of_empty {s : State} (h : s.storeCount = 0) : StoreTopClear s := by
  intro i hi
  simp [h] at hi

theorem storeTopClear_congr {s t : State} (h : StoreTopClear s) (hc : t.storeCount = s.storeCount)
    (hb : ∀ a, 0x04000000 ≤ a → a < 0x04000000 + 4 * s.storeCount.toNat → byteAt t a = byteAt s a) :
    StoreTopClear t := by
  intro i hi
  rw [hc] at hi
  rw [memRead_congr s fun j hj => hb _ (by simp only [Space.start]; omega)
    (by simp only [Space.start]; omega)]
  exact h i hi

theorem storeTopClear_of_mem_eq {s t : State} (h : StoreTopClear s) (hc : t.storeCount = s.storeCount)
    (hm : t.mem = s.mem) (hr : t.resets = s.resets) : StoreTopClear t :=
  storeTopClear_congr h hc fun _ _ _ => byteAt_congr (by rw [hm]) hr

theorem length_lumaSsds (s : State) : (lumaSsds s).length = frameBlockCount s := by simp [lumaSsds]

/-- Entry k of the appended ones is block k's luma SSD (43 R354). -/
theorem memRead_commitFrame_appended (s : State) {k : Nat} (hk : k < frameBlockCount s) :
    memRead (commitFrame s) .store (4 * (s.storeCount.toNat + k)) 4 = blockSsdY s k := by
  have hlen : k < (lumaSsds s).length := by rwa [length_lumaSsds]
  have hentry : (lumaSsds s)[k] = blockSsdY s k := by simp [lumaSsds]
  have hbytes : ∀ j, j < 4 → readByte (commitFrame s) .store (4 * (s.storeCount.toNat + k) + j) =
      BitVec.ofNat 8 (blockSsdY s k / 256 ^ j) := by
    intro j hj
    apply byteAt_of_lookup
    rw [commitFrame_mem, ← hentry, ← lookup_writeEntries_inside _ s.mem _ k j hlen hj]
    congr 1
    omega
  rw [memRead_of_bytes hbytes]
  exact Nat.mod_eq_of_lt ((blockSsdY_lt s k).trans (by decide))

theorem byteAt_commitFrame_stored (s : State) {a : Nat} (ha : a < 0x04000000 + 4 * s.storeCount.toNat) :
    byteAt (commitFrame s) a = byteAt s a :=
  byteAt_congr (lookup_writeEntries_outside _ _ _ _ (.inl ha)) rfl

theorem storeTopClear_commitFrame {s : State} (hinv : Inv s) (h : StoreTopClear s)
    (hc : frameCheck s = none) : StoreTopClear (commitFrame s) := by
  intro i hi
  rw [toNat_commitFrame_storeCount hinv hc] at hi
  by_cases hold : i < s.storeCount.toNat
  · rw [memRead_congr s fun j hj => byteAt_commitFrame_stored s
      (show 0x04000000 + (4 * i + j) < _ by omega)]
    exact h i hold
  · obtain ⟨k, rfl⟩ := Nat.exists_eq_add_of_le (Nat.not_lt.1 hold)
    rw [memRead_commitFrame_appended s (by omega)]
    exact blockSsdY_lt s k

/-- MAP_BUF starts where the window of SSD_STORE ends. -/
theorem storeTopClear_commitMap {s : State} (hinv : Inv s) (h : StoreTopClear s) (lo hi : F64) :
    StoreTopClear (commitMap s lo hi) := by
  refine storeTopClear_congr h rfl fun a _ ha => byteAt_congr ?_ rfl
  have := hinv.store_fits
  obtain ⟨_, _, _, _, _, _, hmax⟩ := hinv.params_legal
  exact lookup_writeBytes_outside _ _ _ _ (.inl (show a < 0x05000000 by omega))

/-! ### The bus -/

/-- The buffers a host may write end below SSD_STORE (20 R101). -/
theorem hostWritable_below_store {p : Params} (hp : p.Legal) {sp : Space} {boff : Nat} {sz : Size}
    (hw : sp.hostWritable = true) (hok : bufferAccessOk p sp boff sz = true) :
    sp.start + boff + sz.bytes ≤ 0x04000000 := by
  obtain ⟨_, _, hframe, _, hmask, _, _⟩ := hp
  simp only [bufferAccessOk, Bool.and_eq_true, decide_eq_true_eq] at hok
  obtain ⟨_, hfits⟩ := hok
  cases sp with
  | ref => simp only [Space.start, Space.bytes] at *; omega
  | tst => simp only [Space.start, Space.bytes] at *; omega
  | mask => simp only [Space.start, Space.bytes] at *; omega
  | store => cases hw
  | map => cases hw

theorem storeTopClear_writeBuffer {s : State} (hinv : Inv s) (h : StoreTopClear s) {sp : Space}
    {boff : Nat} {sz : Size} (w : Word) (hw : sp.hostWritable = true)
    (hok : bufferAccessOk s.params sp boff sz = true) : StoreTopClear (writeBuffer s sp boff sz w) := by
  unfold writeBuffer
  split
  · exact storeTopClear_of_mem_eq h rfl rfl rfl
  · have := hostWritable_below_store hinv.params_legal hw hok
    refine storeTopClear_congr h rfl fun a ha _ => byteAt_congr ?_ rfl
    exact lookup_writeLE_outside _ _ _ _ _ (.inr (by omega))

theorem issue_keeps_store (s : State) (w : Word) :
    (issue s w).storeCount = s.storeCount ∧ (issue s w).mem = s.mem ∧ (issue s w).resets = s.resets := by
  obtain ⟨_, heq⟩ | ⟨_, _, _, heq⟩ | ⟨_, _, heq⟩ := issue_cases s w
  · rw [heq]; exact ⟨rfl, rfl, rfl⟩
  · rw [heq]; exact ⟨rfl, rfl, rfl⟩
  · rw [heq]; exact ⟨rfl, rfl, rfl⟩

theorem writeWindow_keeps_store (s : State) (off : Nat) (v : Word) :
    (writeWindow s off v).storeCount = s.storeCount ∧ (writeWindow s off v).mem = s.mem ∧
    (writeWindow s off v).resets = s.resets := by
  obtain ⟨d, w, ht, lo, hi, heq⟩ | heq | heq | heq := writeWindow_cases s off v
  · rw [heq]; exact ⟨rfl, rfl, rfl⟩
  · rw [heq]; exact issue_keeps_store s v
  · rw [heq]; exact ⟨rfl, rfl, rfl⟩
  · rw [heq]; exact ⟨rfl, rfl, rfl⟩

theorem storeTopClear_hostAccess {s : State} (hinv : Inv s) (h : StoreTopClear s) (a : Access)
    (off : Nat) (sz : Size) : StoreTopClear (hostAccess s a off sz) := by
  obtain heq | ⟨-, -, heq⟩ | ⟨w, -, -, heq⟩ | ⟨_, _, -, -, -, heq⟩ | ⟨_, _, w, -, -, hw, hok, heq⟩ :=
    hostAccess_cases s a off sz
  · rw [heq]; exact storeTopClear_of_mem_eq h rfl rfl rfl
  · rw [heq]; exact storeTopClear_of_mem_eq h rfl rfl rfl
  · obtain ⟨hcount, hmem, hresets⟩ := writeWindow_keeps_store s off w
    rw [heq]; exact storeTopClear_of_mem_eq h hcount hmem hresets
  · rw [heq]; exact storeTopClear_of_mem_eq h rfl rfl rfl
  · rw [heq]; exact storeTopClear_writeBuffer hinv h w hw hok

/-! ### Every command and every step -/

theorem storeTopClear_complete {s : State} (h : StoreTopClear s) : StoreTopClear (complete s) :=
  storeTopClear_of_mem_eq h rfl rfl rfl

theorem storeTopClear_raiseError {s : State} (h : StoreTopClear s) (c : ErrorCode) :
    StoreTopClear (raiseError s c) :=
  storeTopClear_of_mem_eq h rfl rfl rfl

theorem storeTopClear_abortIfFatal {s : State} (h : StoreTopClear s) (c : ErrorCode) :
    StoreTopClear (abortIfFatal s c) := by
  unfold abortIfFatal
  split
  · exact storeTopClear_of_mem_eq h rfl rfl rfl
  · exact h

theorem storeTopClear_exec {i : Instr} {s t : State} (hinv : Inv s) (h : StoreTopClear s)
    (he : exec i s = .next t) : StoreTopClear t := by
  cases i with
  | nop => cases he; exact storeTopClear_complete h
  | config r e =>
    obtain ⟨c, -, rfl⟩ | ⟨-, rfl⟩ := execConfig_cases he
    · exact storeTopClear_raiseError h c
    · exact storeTopClear_of_mem_eq h rfl rfl rfl
  | seqStart =>
    obtain ⟨-, rfl⟩ | ⟨-, rfl⟩ := execSeqStart_cases he
    · exact storeTopClear_raiseError h _
    · exact storeTopClear_of_empty rfl
  | frame =>
    obtain ⟨c, -, rfl⟩ | ⟨hc, rfl⟩ := execFrame_cases he
    · exact storeTopClear_raiseError (storeTopClear_abortIfFatal h c) c
    · exact storeTopClear_complete (storeTopClear_commitFrame hinv h hc)
  | seqFinish =>
    obtain ⟨c, -, rfl⟩ | ⟨-, rfl⟩ := execSeqFinish_cases he
    · exact storeTopClear_raiseError h c
    · exact storeTopClear_of_mem_eq h rfl rfl rfl
  | map n x =>
    obtain ⟨c, -, rfl⟩ | ⟨-, c, -, rfl⟩ | ⟨-, -, rfl⟩ := execMap_cases he
    · exact storeTopClear_raiseError h c
    · exact storeTopClear_of_mem_eq h rfl rfl rfl
    · exact storeTopClear_complete (storeTopClear_commitMap hinv h _ _)
  | clearErr => cases he; exact storeTopClear_of_mem_eq h rfl rfl rfl
  | softReset => cases he; exact storeTopClear_of_empty rfl

theorem storeTopClear_engineStep {s t : State} (hinv : Inv s) (h : StoreTopClear s)
    (he : engineStep s = .next t) : StoreTopClear t := by
  obtain ⟨-, rfl⟩ | ⟨-, i, -, hi⟩ | ⟨-, -, rfl⟩ := engineStep_cases he
  · exact h
  · exact storeTopClear_exec hinv h hi
  · exact storeTopClear_raiseError h _

/-- Settles O58: the engine's step and a transaction keep the stored entries' top bytes 0, and a reset
leaves no entry valid. -/
theorem stepKeepsStoreTopClear : Obligations.StepKeepsStoreTopClear := by
  intro s t hinv h hstep
  have hq : ∀ q, StoreTopClear (withInbox s q) := fun q => storeTopClear_of_mem_eq h rfl rfl rfl
  obtain ⟨-, he⟩ | ⟨q, -, he⟩ | ⟨x, q, -, hx⟩ | ⟨q, -, rfl⟩ := step_cases hstep
  · exact storeTopClear_engineStep hinv h he
  · exact storeTopClear_engineStep (inv_withInbox hinv q) (hq q) he
  · obtain ⟨-, rfl⟩ := busTransaction_cases hx
    exact storeTopClear_hostAccess (inv_withInbox hinv q) (hq q) _ _ _
  · exact storeTopClear_of_empty rfl

end Sys2Proof.Machine
end

section
/-! PROOF. The bus (spec/20): which transactions are answered with BUSERR, what a READ leaves alone, busy
protection, and what a buffer access stores and answers. -/

set_option autoImplicit false

namespace Sys2Proof.Machine

/-! ### The address map (20 R101) -/

theorem target_eq_registers_iff (off : Nat) : target off = .registers ↔ off < 0x1000 := by
  unfold target
  split_ifs <;> simp <;> omega

theorem target_eq_unmapped_iff (off : Nat) :
    target off = .unmapped ↔ (0x1000 ≤ off ∧ off < 0x01000000) ∨ 0x06000000 ≤ off := by
  unfold target
  split_ifs <;> simp <;> omega

theorem target_eq_buffer_iff (off : Nat) (sp : Space) (boff : Nat) :
    target off = .buffer sp boff ↔ off = sp.start + boff ∧ boff < 2 ^ 24 := by
  cases sp <;> grind [target, Space.start]

/-- No buffer is larger than its window. -/
theorem Space.bytes_le_window {p : Params} (hp : p.Legal) (sp : Space) : sp.bytes p ≤ 2 ^ 24 := by
  obtain ⟨_, _, hframe, _, hmask, _, hstore⟩ := hp
  cases sp <;> simp only [Space.bytes] <;> omega

theorem Size.bytes_pos (sz : Size) : 0 < sz.bytes := by cases sz <;> decide

theorem bufferAccessOk_iff (p : Params) (sp : Space) (boff : Nat) (sz : Size) :
    bufferAccessOk p sp boff sz = true ↔ boff % sz.bytes = 0 ∧ boff + sz.bytes ≤ sp.bytes p := by
  simp [bufferAccessOk]

/-- An access that touches implemented bytes only lies in the buffer's window. -/
theorem target_of_bufferAccessOk {p : Params} (hp : p.Legal) {sp : Space} {boff : Nat} {sz : Size}
    (hok : bufferAccessOk p sp boff sz = true) : target (sp.start + boff) = .buffer sp boff := by
  obtain ⟨-, hfits⟩ := (bufferAccessOk_iff p sp boff sz).1 hok
  have := Space.bytes_le_window hp sp
  have := Size.bytes_pos sz
  exact (target_eq_buffer_iff _ _ _).2 ⟨rfl, by omega⟩

theorem hostAccess_read_buffer {s : State} (hp : s.params.Legal) {sp : Space} {boff : Nat} {sz : Size}
    (hok : bufferAccessOk s.params sp boff sz = true) :
    hostAccess s .read (sp.start + boff) sz = readBuffer s sp boff sz := by
  simp [hostAccess, target_of_bufferAccessOk hp hok, hok]

theorem hostAccess_write_buffer {s : State} (hp : s.params.Legal) {sp : Space} {boff : Nat} {sz : Size}
    (w : Word) (hw : sp.hostWritable = true) (hok : bufferAccessOk s.params sp boff sz = true) :
    hostAccess s (.write w) (sp.start + boff) sz = writeBuffer s sp boff sz w := by
  simp [hostAccess, target_of_bufferAccessOk hp hok, hok, hw]

theorem hostWritable_iff (sp : Space) :
    sp.hostWritable = true ↔ sp = .ref ∨ sp = .tst ∨ sp = .mask := by
  cases sp <;> decide

theorem hostWritable_eq_false_iff (sp : Space) :
    sp.hostWritable = false ↔ sp = .store ∨ sp = .map := by
  cases sp <;> decide

/-! ### BUSERR (20 R103, R106 to R108) -/

/-- Whether a transaction passes the access checks of the window it falls in. -/
def accessOk (p : Params) (a : Access) (off : Nat) (sz : Size) : Bool :=
  match target off with
  | .registers => registerAccessOk off sz
  | .buffer sp boff => bufferAccessOk p sp boff sz && (decide (a = .read) || sp.hostWritable)
  | .unmapped => false

theorem accessOk_of_registers {p : Params} {a : Access} {off : Nat} {sz : Size}
    (h : target off = .registers) : accessOk p a off sz = registerAccessOk off sz := by
  simp [accessOk, h]

theorem accessOk_of_buffer {p : Params} {a : Access} {off : Nat} {sz : Size} {sp : Space} {boff : Nat}
    (h : target off = .buffer sp boff) :
    accessOk p a off sz =
      (bufferAccessOk p sp boff sz && (decide (a = .read) || sp.hostWritable)) := by
  simp [accessOk, h]

theorem accessOk_of_unmapped {p : Params} {a : Access} {off : Nat} {sz : Size}
    (h : target off = .unmapped) : accessOk p a off sz = false := by
  simp [accessOk, h]

theorem hostAccess_of_not_accessOk {s : State} {a : Access} {off : Nat} {sz : Size}
    (h : accessOk s.params a off sz = false) : hostAccess s a off sz = answerBusErr s := by
  unfold hostAccess
  cases ht : target off with
  | registers =>
    rw [accessOk_of_registers ht] at h
    simp [h]
  | buffer sp boff =>
    rw [accessOk_of_buffer ht] at h
    cases a <;> simp_all
  | unmapped => rfl

theorem writeBuffer_response (s : State) (sp : Space) (boff : Nat) (sz : Size) (w : Word) :
    (writeBuffer s sp boff sz w).response = some .okWrite := by
  unfold writeBuffer
  split <;> rfl

theorem hostAccess_response_of_accessOk {s : State} {a : Access} {off : Nat} {sz : Size}
    (h : accessOk s.params a off sz = true) : (hostAccess s a off sz).response ≠ some .busErr := by
  unfold hostAccess
  cases ht : target off with
  | registers =>
    rw [accessOk_of_registers ht] at h
    cases a <;> simp [h, readRegisters, writeRegisters]
  | buffer sp boff =>
    rw [accessOk_of_buffer ht] at h
    cases a <;> simp_all [readBuffer, writeBuffer_response]
  | unmapped => simp [accessOk_of_unmapped ht] at h

theorem registerAccessOk_eq_false_iff (off : Nat) (sz : Size) :
    registerAccessOk off sz = false ↔ ¬ (sz = .four ∧ off % 4 = 0) := by
  simp [registerAccessOk]

/-- A buffer's access checks fail by misalignment, by a byte that is not implemented, or by a WRITE to a
buffer the host may only read. -/
theorem bufferChecks_eq_false_iff (p : Params) (a : Access) (sp : Space) (boff : Nat) (sz : Size) :
    (bufferAccessOk p sp boff sz && (decide (a = .read) || sp.hostWritable)) = false ↔
      boff % sz.bytes ≠ 0 ∨ sp.bytes p < boff + sz.bytes ∨
      ((sp = .store ∨ sp = .map) ∧ a ≠ .read) := by
  rw [← hostWritable_eq_false_iff, ← Bool.not_eq_true, Bool.and_eq_true, bufferAccessOk_iff,
    Bool.or_eq_true, decide_eq_true_eq, ← Bool.not_eq_true, ← Nat.not_le]
  tauto

theorem accessOk_eq_false_iff (p : Params) (a : Access) (off : Nat) (sz : Size) :
    accessOk p a off sz = false ↔
      (off < 0x1000 ∧ ¬ (sz = .four ∧ off % 4 = 0)) ∨
      (0x1000 ≤ off ∧ off < 0x01000000) ∨ 0x06000000 ≤ off ∨
      (∃ sp : Space, sp.start ≤ off ∧ off < sp.start + 2 ^ 24 ∧
        ((off - sp.start) % sz.bytes ≠ 0 ∨ sp.bytes p < off - sp.start + sz.bytes ∨
         ((sp = .store ∨ sp = .map) ∧ a ≠ .read))) := by
  constructor
  · intro h
    cases ht : target off with
    | registers =>
      rw [accessOk_of_registers ht] at h
      exact .inl ⟨(target_eq_registers_iff off).1 ht, (registerAccessOk_eq_false_iff off sz).1 h⟩
    | buffer sp boff =>
      rw [accessOk_of_buffer ht] at h
      obtain ⟨rfl, hb⟩ := (target_eq_buffer_iff off sp boff).1 ht
      refine .inr (.inr (.inr ⟨sp, by omega, by omega, ?_⟩))
      rw [Nat.add_sub_cancel_left]
      exact (bufferChecks_eq_false_iff p a sp boff sz).1 h
    | unmapped =>
      obtain hgap | hgap := (target_eq_unmapped_iff off).1 ht
      · exact .inr (.inl hgap)
      · exact .inr (.inr (.inl hgap))
  · rintro (⟨hoff, hbad⟩ | hgap | hgap | ⟨sp, hlo, hhi, hbad⟩)
    · rw [accessOk_of_registers (target_of_lt hoff)]
      exact (registerAccessOk_eq_false_iff off sz).2 hbad
    · exact accessOk_of_unmapped ((target_eq_unmapped_iff off).2 (.inl hgap))
    · exact accessOk_of_unmapped ((target_eq_unmapped_iff off).2 (.inr hgap))
    · rw [accessOk_of_buffer ((target_eq_buffer_iff off sp (off - sp.start)).2 (by omega))]
      exact (bufferChecks_eq_false_iff p a sp _ sz).2 hbad

/-- Settles O41: the listed accesses are exactly those that fail `accessOk`. -/
theorem busErrorsExactlyWhereListed : Obligations.BusErrorsExactlyWhereListed := by
  intro s a off sz _ _ bad
  have hbad : bad ↔ accessOk s.params a off sz = false := (accessOk_eq_false_iff _ _ _ _).symm
  refine ⟨fun h => hostAccess_of_not_accessOk (hbad.1 h), fun h => hostAccess_response_of_accessOk ?_⟩
  exact Bool.eq_true_of_not_eq_false fun hf => h (hbad.2 hf)

/-! ### Reads (20 R110) -/

theorem hostAccess_read_window (s : State) {off : Nat} (sz : Size) (h : off < 0x1000) :
    hostAccess s .read off sz =
      if registerAccessOk off sz then readRegisters s off else answerBusErr s := by
  simp [hostAccess, target_of_lt h]

theorem readRegisters_response (s : State) (off : Nat) :
    (readRegisters s off).response = some (.okRead (readWindow s off)) := rfl

theorem readWindow_readRegisters (s : State) (off off' : Nat) :
    readWindow (readRegisters s off) off' = readWindow s off' := rfl

/-- Settles O42: a READ changes the response and the draws only, and the window reads neither. -/
theorem readsHaveNoSideEffect : Obligations.ReadsHaveNoSideEffect := by
  intro s off sz
  constructor
  · obtain heq | ⟨-, -, heq⟩ | ⟨_, ha, -⟩ | ⟨_, _, -, -, -, heq⟩ | ⟨_, _, _, ha, -⟩ :=
      hostAccess_cases s .read off sz
    · rw [heq]; rfl
    · rw [heq]; rfl
    · cases ha
    · rw [heq]; rfl
    · cases ha
  · intro h
    rw [hostAccess_read_window _ sz h, hostAccess_read_window s sz h]
    split
    · rw [readRegisters_response, readRegisters_response, readWindow_readRegisters]
    · rfl

/-! ### Busy protection (20 R112) -/

theorem hostAccess_write_busyProtected {s : State} (w : Word) {off : Nat} {r : Reg}
    (hr : regAt off = some r) (hprot : busyProtected r = true) (hb : s.busy = true)
    (h : off < 0x1000) (h4 : off % 4 = 0) :
    hostAccess s (.write w) off .four = { s with wrDrop := true, response := some .okWrite } := by
  rw [hostAccess_write_register s w h h4, writeRegisters, writeWindow_of_regAt hr, writeReg,
    if_pos (by simp [hprot, hb])]

theorem busyProtected_offset : ∀ off ∈ [0x020, 0x024, 0x060, 0x064, 0x068, 0x06C],
    (regAt off).any busyProtected = true ∧ off < 0x1000 ∧ off % 4 = 0 := by decide

theorem writeBuffer_of_busy {s : State} (hb : s.busy = true) (sp : Space) (boff : Nat) (sz : Size)
    (w : Word) :
    writeBuffer s sp boff sz w = { s with wrDrop := true, response := some .okWrite } := if_pos hb

theorem writeBuffer_of_not_busy {s : State} (hb : s.busy = false) (sp : Space) (boff : Nat) (sz : Size)
    (w : Word) :
    writeBuffer s sp boff sz w =
      { memWrite s sp boff sz.bytes w.toNat with response := some .okWrite } := by
  simp [writeBuffer, hb]

/-- Settles O43: `writeReg` and `writeBuffer` drop the write, and IRQ_EN and STATUS are stored as when
nothing is in flight. -/
theorem busyProtectedWritesAreDropped : Obligations.BusyProtectedWritesAreDropped := by
  intro s w hb hp
  refine ⟨fun off hoff => ?_, fun sp boff sz hsp halign hfits => ?_,
    hostAccess_write_of_regAt .irqEn rfl (by decide) (by decide) nofun,
    hostAccess_write_of_regAt .status rfl (by decide) (by decide) nofun⟩
  · obtain ⟨hany, h, h4⟩ := busyProtected_offset off hoff
    obtain ⟨r, hr, hprot⟩ := (Option.any_eq_true _ _).1 hany
    exact hostAccess_write_busyProtected w hr hprot hb h h4
  · rw [hostAccess_write_buffer hp w ((hostWritable_iff sp).2 hsp)
      ((bufferAccessOk_iff _ _ _ _).2 ⟨halign, hfits⟩), writeBuffer_of_busy hb]

/-! ### Buffer reads (20 R105, R114) -/

theorem readBuffer_response (s : State) (sp : Space) (boff : Nat) (sz : Size) :
    (readBuffer s sp boff sz).response =
      some (.okRead (BitVec.ofNat 32 (hostBytes s sp boff 0 sz.bytes))) := rfl

theorem readSpecified_iff (s : State) (sp : Space) (boff : Nat) (sz : Size) :
    readSpecified s sp boff sz = true ↔ ∀ j, j < sz.bytes → byteSpecified s sp (boff + j) = true := by
  simp [readSpecified]

theorem hostBytes_of_specified {s : State} {sp : Space} {boff i n : Nat}
    (h : ∀ j, i ≤ j → j < i + n → byteSpecified s sp (boff + j) = true) :
    hostBytes s sp boff i n = memRead s sp (boff + i) n := by
  induction n generalizing i with
  | zero => rfl
  | succ n ih =>
    rw [hostBytes, memRead, ih fun j hlo hhi => h j (by omega) (by omega), hostByte,
      if_pos (h i le_rfl (by omega)), Nat.add_assoc]

/-- A READ whose bytes are all specified returns them and is no draw. -/
theorem readBuffer_of_specified {s : State} {sp : Space} {boff : Nat} {sz : Size}
    (h : ∀ j, j < sz.bytes → byteSpecified s sp (boff + j) = true) :
    readBuffer s sp boff sz =
      { s with response := some (.okRead (BitVec.ofNat 32 (memRead s sp boff sz.bytes))) } := by
  rw [readBuffer, hostBytes_of_specified fun j _ hj => h j (by omega),
    if_pos ((readSpecified_iff s sp boff sz).2 h), Nat.add_zero]

/-- The bytes that are not specified come from the draw, whatever the memory holds. -/
theorem hostBytes_of_unspecified {s : State} {sp : Space} {boff i n : Nat} (m : Memory)
    (h : ∀ j, i ≤ j → j < i + n → byteSpecified s sp (boff + j) = false) :
    hostBytes { s with mem := m } sp boff i n = hostBytes s sp boff i n := by
  induction n generalizing i with
  | zero => rfl
  | succ n ih =>
    have hs : byteSpecified s sp (boff + i) = false := h i le_rfl (by omega)
    have hm : byteSpecified { s with mem := m } sp (boff + i) = false := hs
    rw [hostBytes, hostBytes, ih fun j hlo hhi => h j (by omega) (by omega), hostByte, hostByte, hs, hm]
    rfl

theorem hostAccess_read_of_specified {s : State} (hp : s.params.Legal) {sp : Space} {boff : Nat}
    {sz : Size} (hok : bufferAccessOk s.params sp boff sz = true)
    (h : ∀ j, j < sz.bytes → byteSpecified s sp (boff + j) = true) :
    hostAccess s .read (sp.start + boff) sz =
      { s with response := some (.okRead (BitVec.ofNat 32 (memRead s sp boff sz.bytes))) } := by
  rw [hostAccess_read_buffer hp hok, readBuffer_of_specified h]

theorem hostAccess_read_of_unspecified {s : State} (hp : s.params.Legal) {sp : Space} {boff : Nat}
    {sz : Size} (hok : bufferAccessOk s.params sp boff sz = true)
    (h : ∀ j, j < sz.bytes → byteSpecified s sp (boff + j) = false) (m : Memory) :
    (hostAccess { s with mem := m } .read (sp.start + boff) sz).response =
      (hostAccess s .read (sp.start + boff) sz).response := by
  have hbytes : hostBytes { s with mem := m } sp boff 0 sz.bytes = hostBytes s sp boff 0 sz.bytes :=
    hostBytes_of_unspecified m fun j _ hj => h j (by omega)
  rw [hostAccess_read_buffer (s := { s with mem := m }) hp hok, hostAccess_read_buffer hp hok,
    readBuffer_response, readBuffer_response, hbytes]

/-! ### Buffer writes (20 R103, R105) -/

theorem ofNat_div_pow_eq_extractLsb' (w : Word) (j : Nat) :
    BitVec.ofNat 8 (w.toNat / 256 ^ j) = w.extractLsb' (8 * j) 8 := by
  rw [BitVec.extractLsb', Nat.shiftRight_eq_div_pow, Nat.pow_mul]

theorem byteAt_writeBuffer_inside {s : State} (hb : s.busy = false) (sp : Space) (boff : Nat) {sz : Size}
    (w : Word) {j : Nat} (hj : j < sz.bytes) :
    byteAt (writeBuffer s sp boff sz w) (sp.start + boff + j) =
      BitVec.ofNat 8 (w.toNat / 256 ^ j) := by
  rw [writeBuffer_of_not_busy hb]
  exact byteAt_of_lookup (lookup_writeLE_inside _ _ _ _ _ hj)

theorem byteAt_writeBuffer_outside {s : State} (hb : s.busy = false) {sp : Space} {boff : Nat}
    {sz : Size} (w : Word) {a : Nat} (ha : a < sp.start + boff ∨ sp.start + boff + sz.bytes ≤ a) :
    byteAt (writeBuffer s sp boff sz w) a = byteAt s a := by
  rw [writeBuffer_of_not_busy hb]
  exact byteAt_congr (lookup_writeLE_outside _ _ _ _ _ ha) rfl

theorem memRead_writeBuffer {s : State} (hb : s.busy = false) (sp : Space) (boff : Nat) (sz : Size)
    (w : Word) :
    memRead (writeBuffer s sp boff sz w) sp boff sz.bytes = w.toNat % 256 ^ sz.bytes :=
  memRead_of_bytes fun j hj => by
    rw [readByte, ← Nat.add_assoc, byteAt_writeBuffer_inside hb sp boff w hj]

theorem byteSpecified_of_hostWritable (s : State) {sp : Space} (hw : sp.hostWritable = true)
    (boff : Nat) : byteSpecified s sp boff = true := by
  cases sp with
  | ref | tst | mask => rfl
  | store | map => cases hw

/-- Settles O46: `writeBuffer` stores the bytes, and those of an input buffer are always specified. -/
theorem bufferWriteThenRead : Obligations.BufferWriteThenRead := by
  intro s sp boff sz w hp hb hsp halign hfits
  have hw := (hostWritable_iff sp).2 hsp
  have hok := (bufferAccessOk_iff _ _ _ _).2 ⟨halign, hfits⟩
  have hparams : (writeBuffer s sp boff sz w).params = s.params := by
    rw [writeBuffer_of_not_busy hb]; rfl
  refine ⟨_, hostAccess_write_buffer hp w hw hok, ?frame, fun j hj => ?bytes,
    fun a ha => byteAt_writeBuffer_outside hb w ha, ?read⟩
  case frame => rw [writeBuffer_of_not_busy hb]; rfl
  case bytes => rw [byteAt_writeBuffer_inside hb sp boff w hj, ofNat_div_pow_eq_extractLsb']
  case read =>
    rw [← hparams] at hp hok
    rw [hostAccess_read_of_specified hp hok fun j _ => byteSpecified_of_hostWritable _ hw _,
      memRead_writeBuffer hb, Nat.pow_mul]

/-! ### SSD_STORE and MAP_BUF (20 R114) -/

theorem byteSpecified_store (s : State) (i : Nat) {j : Nat} (hj : j < 4) :
    byteSpecified s .store (4 * i + j) = decide (i < s.storeCount.toNat) := by
  rw [byteSpecified, show (4 * i + j) / 4 = i by omega]

theorem mapInFlight_iff (s : State) :
    mapInFlight s = true ↔ s.busy = true ∧ ∃ n x, decode s.curCmd = .ok (.map n x) := by
  unfold mapInFlight
  rw [Bool.and_eq_true]
  split
  · rename_i hd; simp [hd]
  · rename_i hd; simpa using fun _ n x => hd n x

theorem byteSpecified_map_iff (s : State) (i : Nat) :
    byteSpecified s .map i = true ↔
      s.valid.mapValid = true ∧ i < s.mapCount.toNat ∧
      ¬ (s.busy = true ∧ ∃ n x, decode s.curCmd = .ok (.map n x)) := by
  rw [← mapInFlight_iff]
  simp [byteSpecified, and_assoc]

theorem bufferAccessOk_store {p : Params} {i : Nat} (hi : i < p.storeEntries) :
    bufferAccessOk p .store (4 * i) .four = true :=
  (bufferAccessOk_iff _ _ _ _).2 ⟨Nat.mul_mod_right 4 i, by simp only [Space.bytes, Size.bytes]; omega⟩

theorem bufferAccessOk_map {p : Params} {i : Nat} (hi : i < p.storeEntries) :
    bufferAccessOk p .map i .one = true :=
  (bufferAccessOk_iff _ _ _ _).2 ⟨Nat.mod_one i, hi⟩

/-- Settles O47: an entry's four bytes are specified together, and the map's byte under R114's three
conditions. -/
theorem storeAndMapReadsAreStoredWhereSpecified :
    Obligations.StoreAndMapReadsAreStoredWhereSpecified := by
  intro s i hp hi
  refine ⟨fun hcount => ?stored, fun hcount m => ?unstored, fun hvalid hcount hflight => ?map,
    fun hfree m => ?noMap⟩
  case stored =>
    exact hostAccess_read_of_specified hp (bufferAccessOk_store hi) fun j hj => by
      rw [byteSpecified_store s i hj, decide_eq_true hcount]
  case unstored =>
    exact hostAccess_read_of_unspecified hp (bufferAccessOk_store hi) (fun j hj => by
      rw [byteSpecified_store s i hj, decide_eq_false (Nat.not_lt.2 hcount)]) m
  case map =>
    have hspec : byteSpecified s .map i = true :=
      (byteSpecified_map_iff s i).2 ⟨hvalid, hcount, fun ⟨hb, n, x, hd⟩ => hflight hb n x hd⟩
    refine (hostAccess_read_of_specified hp (bufferAccessOk_map hi) fun j hj => ?_).trans ?_
    · rwa [Nat.lt_one_iff.1 hj]
    · exact congrArg (fun v => { s with response := some (.okRead v) }) (BitVec.ofNat_toNat 32 _)
  case noMap =>
    have hspec : byteSpecified s .map i = false := by
      rw [← Bool.not_eq_true, byteSpecified_map_iff]
      rintro ⟨hvalid, hcount, hflight⟩
      obtain hv | hc | hf := hfree
      · simp [hvalid] at hv
      · omega
      · exact hflight hf
    exact hostAccess_read_of_unspecified hp (bufferAccessOk_map hi)
      (fun j hj => by rwa [Nat.lt_one_iff.1 hj]) m

end Sys2Proof.Machine
end

section
/-! PROOF. What the engine writes of the buffers (20 R111): FRAME appends to SSD_STORE, MAP fills MAP_BUF,
and the other commands write none. -/

set_option autoImplicit false

namespace Sys2Proof.Machine

theorem byteAt_of_mem_eq {s t : State} (hm : t.mem = s.mem) (hr : t.resets = s.resets) (a : Nat) :
    byteAt t a = byteAt s a :=
  byteAt_congr (by rw [hm]) hr

/-- What a command can do to the buffers: nothing, FRAME's append or MAP's bytes. -/
theorem exec_mem_cases {i : Instr} {s t : State} (h : exec i s = .next t) :
    (∀ a, byteAt t a = byteAt s a) ∨
    (i = .frame ∧ frameCheck s = none ∧ ∀ a, byteAt t a = byteAt (commitFrame s) a) ∨
    (∃ n x lo hi, i = .map n x ∧ ∀ a, byteAt t a = byteAt (commitMap s lo hi) a) := by
  cases i with
  | nop => cases h; exact .inl (byteAt_of_mem_eq rfl rfl)
  | config r e =>
    obtain ⟨_, -, rfl⟩ | ⟨-, rfl⟩ := execConfig_cases h <;> exact .inl (byteAt_of_mem_eq rfl rfl)
  | seqStart =>
    obtain ⟨-, rfl⟩ | ⟨-, rfl⟩ := execSeqStart_cases h <;> exact .inl (byteAt_of_mem_eq rfl rfl)
  | frame =>
    obtain ⟨c, hc, rfl⟩ | ⟨hc, rfl⟩ := execFrame_cases h
    · left
      unfold abortIfFatal
      split <;> exact byteAt_of_mem_eq rfl rfl
    · exact .inr (.inl ⟨rfl, hc, byteAt_of_mem_eq rfl rfl⟩)
  | seqFinish =>
    obtain ⟨_, -, rfl⟩ | ⟨-, rfl⟩ := execSeqFinish_cases h <;> exact .inl (byteAt_of_mem_eq rfl rfl)
  | map n x =>
    obtain ⟨_, -, rfl⟩ | ⟨-, _, -, rfl⟩ | ⟨-, -, rfl⟩ := execMap_cases h
    · exact .inl (byteAt_of_mem_eq rfl rfl)
    · exact .inl (byteAt_of_mem_eq rfl rfl)
    · exact .inr (.inr ⟨n, x, _, _, rfl, byteAt_of_mem_eq rfl rfl⟩)
  | clearErr => cases h; exact .inl (byteAt_of_mem_eq rfl rfl)
  | softReset => cases h; exact .inl (byteAt_of_mem_eq rfl rfl)

/-- FRAME's entries stay in the window of SSD_STORE. -/
theorem byteAt_commitFrame_outside {s : State} (hp : s.params.Legal) (hc : frameCheck s = none) {a : Nat}
    (ha : a < 0x04000000 ∨ 0x05000000 ≤ a) : byteAt (commitFrame s) a = byteAt s a := by
  refine byteAt_congr (lookup_writeEntries_outside _ _ _ _ ?_) rfl
  obtain ⟨-, hroom⟩ := frameCheck_eq_none hc
  obtain ⟨_, _, _, _, _, _, hstore⟩ := hp
  rw [length_lumaSsds]
  simp only [Space.start]
  omega

theorem byteAt_commitMap_below (s : State) (lo hi : F64) {a : Nat} (ha : a < 0x05000000) :
    byteAt (commitMap s lo hi) a = byteAt s a :=
  byteAt_congr (lookup_writeBytes_outside _ _ _ _ (.inl ha)) rfl

/-- Settles O60: each of `exec_mem_cases` leaves alone what the statement lists for its commands. -/
theorem engineWritesOnlyItsBuffers : Obligations.EngineWritesOnlyItsBuffers := by
  intro i s t hinv h
  obtain hsame | ⟨rfl, hc, hframe⟩ | ⟨n, x, lo, hi, rfl, hmap⟩ := exec_mem_cases h
  · exact ⟨fun a _ => hsame a, fun _ a _ _ => hsame a, fun _ a _ => hsame a⟩
  · have hout : ∀ a, a < 0x04000000 ∨ 0x05000000 ≤ a → byteAt t a = byteAt s a := fun a ha =>
      (hframe a).trans (byteAt_commitFrame_outside hinv.params_legal hc ha)
    exact ⟨fun a ha => hout a (.inl ha), fun hne => absurd rfl hne, fun _ a ha => hout a (.inr ha)⟩
  · have hbelow : ∀ a, a < 0x05000000 → byteAt t a = byteAt s a := fun a ha =>
      (hmap a).trans (byteAt_commitMap_below s lo hi ha)
    exact ⟨fun a ha => hbelow a (by omega), fun _ a _ ha => hbelow a ha,
      fun hne => absurd rfl (hne n x)⟩

end Sys2Proof.Machine
end

section
/-! PROOF. Command words (spec/30): a row of the opcode map selects exactly the words of the command it
builds, no word is selected by two rows, and a spelling's word holds the flags it names. -/

set_option autoImplicit false

namespace Sys2Proof

/-! ### The rows of the opcode map (30 R152) -/

theorem and_fullMask (w : Word) : w &&& 0xFFFFFFFF#32 = w := BitVec.and_allOnes

theorem getElem_flagMask :
    ∀ j : Fin 32, (0xFFFFFCFF#32)[j.val] = (decide (j.val ≠ 8) && decide (j.val ≠ 9)) := by decide

theorem getElem_flagBit (b : Bool) (i : Nat) {j : Nat} (hj : j < 32) :
    (flagBit b i)[j] = (b && decide (i = j)) := Machine.getElem_bitAt b i hj

/-- A word is what the mask of CONFIG and MAP keeps of it with its two flags. -/
theorem and_flagMask_or_flags (w : Word) :
    (w &&& 0xFFFFFCFF#32) ||| flagBit (flag0 w) 8 ||| flagBit (flag1 w) 9 = w := by
  ext j hj
  simp only [BitVec.getElem_or, BitVec.getElem_and, getElem_flagMask ⟨j, hj⟩, getElem_flagBit _ _ hj]
  by_cases h8 : j = 8
  · subst h8; simp [flag0, BitVec.getLsbD_eq_getElem]
  · by_cases h9 : j = 9
    · subst h9; simp [flag1, BitVec.getLsbD_eq_getElem]
    · simp [h8, h9, Ne.symm h8, Ne.symm h9]

theorem or_flags_and_flagMask {p : Word} (hp : p &&& 0xFFFFFCFF#32 = p) (a b : Bool) :
    (p ||| flagBit a 8 ||| flagBit b 9) &&& 0xFFFFFCFF#32 = p := by
  have h8 : flagBit a 8 &&& 0xFFFFFCFF#32 = 0#32 := by cases a <;> decide
  have h9 : flagBit b 9 &&& 0xFFFFFCFF#32 = 0#32 := by cases b <;> decide
  rw [BitVec.and_or_distrib_right, BitVec.and_or_distrib_right, hp, h8, h9, BitVec.or_zero,
    BitVec.or_zero]

theorem and_flagMask_eq_iff (w : Word) {p : Word} (hp : p &&& 0xFFFFFCFF#32 = p) :
    w &&& 0xFFFFFCFF#32 = p ↔ w = p ||| flagBit (flag0 w) 8 ||| flagBit (flag1 w) 9 := by
  constructor
  · rintro rfl
    exact (and_flagMask_or_flags w).symm
  · intro h
    exact (congrArg (· &&& 0xFFFFFCFF#32) h).trans (or_flags_and_flagMask hp _ _)

theorem OpcodeRow.selects_iff (r : OpcodeRow) (w : Word) :
    r.selects w = true ↔ w &&& r.mask = r.pattern := beq_iff_eq

/-- A row selects exactly the words of the command it builds. -/
theorem selects_iff_eq_encode {r : OpcodeRow} (hr : r ∈ opcodeRows) (w : Word) :
    r.selects w = true ↔ w = encode (r.build w) := by
  rw [r.selects_iff]
  simp only [opcodeRows, List.mem_cons, List.not_mem_nil, or_false] at hr
  obtain rfl | rfl | rfl | rfl | rfl | rfl | rfl | rfl := hr
  case inr.inl => exact and_flagMask_eq_iff w (by decide)
  case inr.inr.inr.inr.inr.inl => exact and_flagMask_eq_iff w (by decide)
  all_goals rw [and_fullMask]; rfl

/-- Every command has a row that builds it from its own word. -/
theorem exists_row_of_encode (i : Instr) :
    ∃ r ∈ opcodeRows, r.selects (encode i) = true ∧ r.build (encode i) = i := by
  cases i with
  | config a b => cases a <;> cases b <;> decide
  | map a b => cases a <;> cases b <;> decide
  | _ => decide

/-! ### At most one row (30 R154) -/

theorem row_masks_opcode : ∀ r ∈ opcodeRows,
    r.mask &&& 0xFF#32 = 0xFF#32 ∧ r.pattern &&& 0xFF#32 = r.pattern := by decide

/-- The row that selects a word is the one of its OP. -/
theorem pattern_of_selects {r : OpcodeRow} (hr : r ∈ opcodeRows) {w : Word} (h : r.selects w = true) :
    r.pattern = w &&& 0xFF#32 := by
  obtain ⟨hmask, hpattern⟩ := row_masks_opcode r hr
  rw [← hpattern, ← (r.selects_iff w).1 h, BitVec.and_assoc, hmask]

theorem length_selected_le_one (w : Word) : (opcodeRows.filter (·.selects w)).length ≤ 1 := by
  have hnodup : (opcodeRows.map (·.pattern)).Nodup := by decide
  have hsame : (opcodeRows.filter (·.selects w)).map (·.pattern) =
      List.replicate (opcodeRows.filter (·.selects w)).length (w &&& 0xFF#32) := by
    refine List.eq_replicate_iff.2 ⟨List.length_map _, fun p hp => ?_⟩
    obtain ⟨r, hr, rfl⟩ := List.mem_map.1 hp
    obtain ⟨hrow, hsel⟩ := List.mem_filter.1 hr
    exact pattern_of_selects hrow hsel
  have hsub := hnodup.sublist ((List.filter_sublist (p := (·.selects w))).map _)
  rw [hsame] at hsub
  exact List.nodup_replicate.1 hsub

/-! ### Decoding -/

theorem decode_of_selects {r : OpcodeRow} (hr : r ∈ opcodeRows) {w : Word} (h : r.selects w = true) :
    decode w = .ok (r.build w) := by
  have hmem : r ∈ opcodeRows.filter (·.selects w) := List.mem_filter.2 ⟨hr, h⟩
  obtain ⟨a, ha⟩ := List.length_eq_one_iff.1
    (le_antisymm (length_selected_le_one w) (List.length_pos_of_mem hmem))
  rw [ha, List.mem_singleton] at hmem
  subst hmem
  simp only [decode, ha]

theorem decode_eq_ok_iff_row (w : Word) (i : Instr) :
    decode w = .ok i ↔ ∃ r ∈ opcodeRows, r.selects w = true ∧ r.build w = i := by
  constructor
  · intro h
    unfold decode at h
    split at h
    · rename_i r hr
      cases h
      obtain ⟨hrow, hsel⟩ := List.mem_filter.1 (hr ▸ List.mem_singleton_self r)
      exact ⟨r, hrow, hsel, rfl⟩
    · cases h
  · rintro ⟨r, hr, hsel, rfl⟩
    exact decode_of_selects hr hsel

theorem decode_encode (i : Instr) : decode (encode i) = .ok i :=
  (decode_eq_ok_iff_row _ i).2 (exists_row_of_encode i)

/-- Settles O1: the row that answers a word selects only its command's word, and a command's word has its
row. -/
theorem decodeIsInverseOfEncode : Obligations.DecodeIsInverseOfEncode := by
  intro w i
  constructor
  · intro h
    obtain ⟨r, hr, hsel, rfl⟩ := (decode_eq_ok_iff_row w i).1 h
    exact (selects_iff_eq_encode hr w).1 hsel
  · rintro rfl
    exact decode_encode i

/-! ### The ILLEGAL words -/

theorem word_eq_fields (w : Word) : w = rsvdField w ++ flagField w ++ opField w := by
  unfold rsvdField flagField opField
  rw [BitVec.extractLsb'_append_extractLsb'_eq_extractLsb' (by decide),
    BitVec.extractLsb'_append_extractLsb'_eq_extractLsb' (by decide)]
  simp

theorem commandWordWellFormed_iff (w : Word) :
    commandWordWellFormed w = true ↔
      rsvdOk w = true ∧ opAssigned w = true ∧ flagsOk w = true := by
  simp [commandWordWellFormed, and_assoc]

theorem commandWordWellFormed_encode (i : Instr) : commandWordWellFormed (encode i) = true := by
  cases i with
  | config a b => cases a <;> cases b <;> decide
  | map a b => cases a <;> cases b <;> decide
  | _ => decide

theorem opAssigned_iff (w : Word) :
    opAssigned w = true ↔
      opField w ∈ [0x00#8, 0x01#8, 0x02#8, 0x03#8, 0x04#8, 0x05#8, 0x0E#8, 0x0F#8] := by
  have : ∀ op : Byte, (decide (op.toNat < 6) || op == 0x0E#8 || op == 0x0F#8) = true ↔
      op ∈ [0x00#8, 0x01#8, 0x02#8, 0x03#8, 0x04#8, 0x05#8, 0x0E#8, 0x0F#8] := by
    decide
  exact this _

/-- The word of an opcode with flags and two flag bits. -/
theorem flagged_eq_encode : ∀ f : BitVec 2,
    (0#22 ++ f ++ 0x01#8 : Word) = encode (.config (f.getLsbD 0) (f.getLsbD 1)) ∧
    (0#22 ++ f ++ 0x05#8 : Word) = encode (.map (f.getLsbD 0) (f.getLsbD 1)) := by decide

theorem eq_encode_of_commandWordWellFormed {w : Word} (h : commandWordWellFormed w = true) :
    ∃ i, w = encode i := by
  obtain ⟨hrsvd, hop, hflags⟩ := (commandWordWellFormed_iff w).1 h
  have hw : w = 0#22 ++ flagField w ++ opField w := by
    have := word_eq_fields w
    rwa [show rsvdField w = 0#22 from beq_iff_eq.1 hrsvd] at this
  have plain : ∀ {op : Byte}, opField w = op → op ≠ 0x01#8 → op ≠ 0x05#8 → w = 0#22 ++ 0#2 ++ op := by
    rintro _ rfl h1 h5
    have : flagField w = 0#2 := by simpa [flagsOk, opHasFlags, h1, h5] using hflags
    rwa [this] at hw
  obtain ⟨hconfig, hmap⟩ := flagged_eq_encode (flagField w)
  simp only [opAssigned_iff, List.mem_cons, List.not_mem_nil, or_false] at hop
  obtain h0 | h1 | h2 | h3 | h4 | h5 | hE | hF := hop
  · exact ⟨.nop, plain h0 (by decide) (by decide)⟩
  · exact ⟨_, (h1 ▸ hw).trans hconfig⟩
  · exact ⟨.seqStart, plain h2 (by decide) (by decide)⟩
  · exact ⟨.frame, plain h3 (by decide) (by decide)⟩
  · exact ⟨.seqFinish, plain h4 (by decide) (by decide)⟩
  · exact ⟨_, (h5 ▸ hw).trans hmap⟩
  · exact ⟨.clearErr, plain hE (by decide) (by decide)⟩
  · exact ⟨.softReset, plain hF (by decide) (by decide)⟩

/-- The decoder rejects exactly the words that the field checks of 30 R154 refuse. -/
theorem decode_error_iff (w : Word) :
    (∃ e, decode w = .error e) ↔ commandWordWellFormed w = false := by
  constructor
  · rintro ⟨e, he⟩
    refine Bool.eq_false_of_not_eq_true fun hwf => ?_
    obtain ⟨i, rfl⟩ := eq_encode_of_commandWordWellFormed hwf
    simp [decode_encode] at he
  · intro hwf
    cases hd : decode w with
    | error e => exact ⟨e, rfl⟩
    | ok i =>
      rw [(decodeIsInverseOfEncode w i).1 hd, commandWordWellFormed_encode] at hwf
      cases hwf

theorem toNat_opField (w : Word) : (opField w).toNat = w.toNat % 256 := by
  simp [opField]

theorem opField_eq_iff (w : Word) (op : Byte) : opField w = op ↔ w.toNat % 256 = op.toNat := by
  rw [← toNat_opField, BitVec.toNat_inj]

theorem opAssigned_eq_false_iff (w : Word) :
    opAssigned w = false ↔ (6 ≤ w.toNat % 256 ∧ w.toNat % 256 ≤ 13) ∨ 16 ≤ w.toNat % 256 := by
  simp [opAssigned, toNat_opField, opField_eq_iff]
  omega

theorem flagsOk_eq_false_iff (w : Word) :
    flagsOk w = false ↔ flagField w ≠ 0#2 ∧ w.toNat % 256 ≠ 1 ∧ w.toNat % 256 ≠ 5 := by
  simp [flagsOk, opHasFlags, opField_eq_iff]

/-- The words 30 R154 lists as ILLEGAL. -/
theorem commandWordWellFormed_eq_false_iff (w : Word) :
    commandWordWellFormed w = false ↔
      rsvdField w ≠ 0#22 ∨
      (6 ≤ w.toNat % 256 ∧ w.toNat % 256 ≤ 13) ∨ 16 ≤ w.toNat % 256 ∨
      (flagField w ≠ 0#2 ∧ w.toNat % 256 ≠ 1 ∧ w.toNat % 256 ≠ 5) := by
  rw [commandWordWellFormed, Bool.and_eq_false_iff, Bool.and_eq_false_iff, opAssigned_eq_false_iff,
    flagsOk_eq_false_iff, rsvdOk, beq_eq_false_iff_ne, or_assoc, or_assoc]

/-- Settles O2: the filter of the rows is `decode`'s own, and the list of R154 is the model's check of
well-formedness, written in numbers. -/
theorem decodeSelectsTheOneMatchingRow : Obligations.DecodeSelectsTheOneMatchingRow := by
  intro w
  refine ⟨length_selected_le_one w, fun i => ?_,
    (decode_error_iff w).trans (commandWordWellFormed_eq_false_iff w)⟩
  rw [decode_eq_ok_iff_row]
  simp only [OpcodeRow.selects_iff]

/-- Settles O3: ten are commands' words, and three no row selects. -/
theorem knownWordsDecode : Obligations.KnownWordsDecode :=
  ⟨decode_encode .nop, decode_encode (.config true false), decode_encode (.config false true),
    decode_encode .seqStart, decode_encode .frame, decode_encode .seqFinish,
    decode_encode (.map true false), decode_encode (.map true true), decode_encode .clearErr,
    decode_encode .softReset, by decide, by decide, by decide⟩

/-! ### Spellings (30 R159) -/

/-- The mnemonic a flag belongs to. -/
def FlagName.command : FlagName → CommandName
  | .roi => .config
  | .skip => .config
  | .minx => .map
  | .maxx => .map

theorem admits_iff (n : CommandName) (f : FlagName) : n.admits f = true ↔ n = f.command := by
  cases n <;> cases f <;> decide

theorem Spelling.wellFormed_iff (m : Spelling) :
    m.wellFormed = true ↔ m.flags.Nodup ∧ ∀ f ∈ m.flags, m.name = f.command := by
  simp [Spelling.wellFormed, admits_iff, and_comm]

theorem Spelling.instr_eq_of_perm (n : CommandName) {fs gs : List FlagName} (h : fs.Perm gs) :
    Spelling.instr ⟨n, fs⟩ = Spelling.instr ⟨n, gs⟩ := by
  have hmem : ∀ f, fs.contains f = gs.contains f := fun f => h.contains_eq
  cases n <;> simp only [Spelling.instr, hmem]

/-- The word of a spelling whose flags are all its mnemonic's. -/
theorem Spelling.enc_eq {m : Spelling} (h : ∀ f ∈ m.flags, m.name = f.command) :
    m.enc = Spelling.enc ⟨m.name, []⟩ |||
      (if FlagName.roi ∈ m.flags ∨ FlagName.minx ∈ m.flags then 0x100#32 else 0#32) |||
      (if FlagName.skip ∈ m.flags ∨ FlagName.maxx ∈ m.flags then 0x200#32 else 0#32) := by
  have foreign : ∀ f : FlagName, m.name ≠ f.command → f ∉ m.flags := fun f hne hf => hne (h f hf)
  obtain ⟨n, fs⟩ := m
  cases n with
  | config =>
    simp [Spelling.enc, Spelling.instr, encode, flagBit, foreign .minx nofun, foreign .maxx nofun]
  | map =>
    simp [Spelling.enc, Spelling.instr, encode, flagBit, foreign .roi nofun, foreign .skip nofun]
  | _ =>
    simp [Spelling.enc, Spelling.instr, foreign .roi nofun, foreign .skip nofun, foreign .minx nofun,
      foreign .maxx nofun]

/-- Settles O4: a well-formed spelling's flags are its mnemonic's, and `contains` does not see their order. -/
theorem spellingSetsTheNamedFlags : Obligations.SpellingSetsTheNamedFlags := by
  refine ⟨rfl, rfl, rfl, rfl, rfl, rfl, rfl, rfl,
    fun m hm => Spelling.enc_eq ((Spelling.wellFormed_iff m).1 hm).2, fun m => ?_,
    fun n fs gs h => congrArg encode (Spelling.instr_eq_of_perm n h), rfl, rfl, rfl⟩
  rw [Spelling.wellFormed_iff]
  refine and_congr_right fun _ => ⟨fun h => ⟨h .roi, h .skip, h .minx, h .maxx⟩, ?_⟩
  rintro ⟨hroi, hskip, hminx, hmaxx⟩ f hf
  cases f with
  | roi => exact hroi hf
  | skip => exact hskip hf
  | minx => exact hminx hf
  | maxx => exact hmaxx hf

end Sys2Proof
end

section
/-! PROOF. What becomes of an ILLEGAL word (30 R157), and the host programs of 30 R160: WAIT ends after the
completion, and FILL writes what one word write does. -/

set_option autoImplicit false

namespace Sys2Proof.Machine

/-! ### An ILLEGAL word (30 R157) -/

/-- The words accepted under ERR are commands' words. -/
theorem acceptedUnderErr_of_decode_error {w : Word} {e : Illegal} (h : decode w = .error e) :
    acceptedUnderErr w = false := by
  have hne : ∀ i, w ≠ encode i := by
    rintro i rfl
    simp [decode_encode] at h
  simp only [acceptedUnderErr, Bool.or_eq_false_iff, beq_eq_false_iff_ne]
  exact ⟨⟨hne .nop, hne .clearErr⟩, hne .softReset⟩

theorem issue_of_no_error {s : State} (hb : s.busy = false) (he : s.err = false) (w : Word) :
    issue s w = accept s w := by
  simp [issue, hb, he]

theorem issue_of_error {s : State} (hb : s.busy = false) (he : s.err = true) {w : Word}
    (hw : acceptedUnderErr w = false) : issue s w = { s with rej := true } := by
  simp [issue, hb, he, hw]

theorem engineStep_of_illegal {s : State} {e : Illegal} (hb : s.busy = true)
    (hd : decode s.curCmd = .error e) : engineStep s = .next (illegalCommand s) := by
  simp only [engineStep, hb, hd, if_true]

/-- Settles O6: `issue` accepts the word, which the engine then finds to be no command; and it is none of
the three words that ERR lets through. -/
theorem illegalWordRaisesIllegalCmd : Obligations.IllegalWordRaisesIllegalCmd := by
  intro s w e hd hb
  refine ⟨fun he => ?accepted, fun he => issue_of_error hb he (acceptedUnderErr_of_decode_error hd)⟩
  case accepted =>
    rw [issue_of_no_error hb he]
    exact ⟨rfl, engineStep_of_illegal (s := accept s w) rfl hd⟩

/-! ### The engine's step always completes the command in flight (40 R204) -/

theorem abortIfFatal_inbox (s : State) (c : ErrorCode) : (abortIfFatal s c).inbox = s.inbox := by
  unfold abortIfFatal
  split <;> rfl

/-- No command faults or is refused: each ends in `complete`, and none touches the inbox. -/
theorem exec_completes (i : Instr) (s : State) :
    ∃ t, exec i s = .next t ∧ t.busy = false ∧ t.inbox = s.inbox := by
  cases i with
  | nop => exact ⟨_, rfl, rfl, rfl⟩
  | config r e =>
    cases hc : configCheck s r with
    | none => exact ⟨_, exec_config_ok hc, rfl, rfl⟩
    | some c => exact ⟨_, exec_config_error hc, rfl, rfl⟩
  | seqStart =>
    cases hc : s.cfgValid with
    | false => exact ⟨_, if_pos hc, rfl, rfl⟩
    | true => exact ⟨_, if_neg (by simp [hc]), rfl, rfl⟩
  | frame =>
    cases hc : frameCheck s with
    | none => exact ⟨_, exec_frame_ok hc, rfl, rfl⟩
    | some c => exact ⟨_, exec_frame_error hc, rfl, abortIfFatal_inbox s c⟩
  | seqFinish =>
    cases hc : seqFinishCheck s with
    | none => exact ⟨_, exec_seqFinish_ok hc, rfl, rfl⟩
    | some c => exact ⟨_, exec_seqFinish_error hc, rfl, rfl⟩
  | map n x =>
    cases hc : mapCheck s n x with
    | some c => exact ⟨_, exec_map_error hc, rfl, rfl⟩
    | none =>
      cases hb : boundCheck (lowerBound s n) (upperBound s x) with
      | none => exact ⟨_, exec_map_ok hc hb, rfl, rfl⟩
      | some c => exact ⟨_, exec_map_boundError hc hb, rfl, rfl⟩
  | clearErr => exact ⟨_, rfl, rfl, rfl⟩
  | softReset => exact ⟨_, rfl, rfl, rfl⟩

theorem engineStep_completes (s : State) :
    ∃ t, engineStep s = .next t ∧ t.busy = false ∧ t.inbox = s.inbox := by
  cases hb : s.busy with
  | false => exact ⟨s, by simp [engineStep, hb], hb, rfl⟩
  | true =>
    cases hd : decode s.curCmd with
    | error e => exact ⟨_, engineStep_of_illegal hb hd, rfl, rfl⟩
    | ok i =>
      obtain ⟨t, ht, hbusy, hinbox⟩ := exec_completes i s
      exact ⟨t, by simpa only [engineStep, hb, hd, if_true] using ht, hbusy, hinbox⟩

/-! ### The executor's steps -/

theorem step_withEvent_engine (s : State) : step (withEvent s .engine) = engineStep s := rfl

theorem step_withEvent_bus (s : State) (t : Transaction) :
    step (withEvent s (.bus t)) = busTransaction s t := rfl

/-- A transaction at an offset of the block reaches the block. -/
theorem busTransaction_transactionAt (s : State) (a : Access) {off : Nat} (sz : Size)
    (h : off < 2 ^ 27) :
    busTransaction s (transactionAt s a off sz) = .next (hostAccess s a off sz) := by
  have hin : inBlock s.params (s.params.base + off) = true := by simpa [inBlock] using h
  simp [busTransaction, transactionAt, hin]

theorem step_transactionAt (s : State) (a : Access) {off : Nat} (sz : Size) (h : off < 2 ^ 27) :
    step (withEvent s (.bus (transactionAt s a off sz))) = .next (hostAccess s a off sz) :=
  (step_withEvent_bus s _).trans (busTransaction_transactionAt s a sz h)

/-! ### WAIT -/

theorem readRegisters_status_response (s : State) :
    (readRegisters s 0x00C).response = some (.okRead (statusWord s)) := by
  rw [readRegisters_response, readWindow_of_regAt (r := .status) rfl (by decide)]
  rfl

/-- A poll of WAIT is a READ of STATUS. -/
theorem step_poll (s : State) :
    step (withEvent s (.bus (transactionAt s .read 0x00C .four))) = .next (readRegisters s 0x00C) := by
  rw [step_transactionAt s .read .four (by decide),
    hostAccess_read_register s (by decide) (by decide)]

theorem runWait_of_not_busy (fuel : Nat) {s : State} (hb : s.busy = false) :
    runWait (fuel + 1) s = .ran (readRegisters s 0x00C) [] := by
  obtain ⟨hbit, -⟩ := statusWord_bits s
  simp only [runWait, step_poll, readRegisters_status_response, hbit, hb, Bool.false_eq_true, if_false]

theorem runWait_of_busy {fuel : Nat} {s t : State} (hb : s.busy = true)
    (ht : engineStep (readRegisters s 0x00C) = .next t) : runWait (fuel + 1) s = runWait fuel t := by
  obtain ⟨hbit, -⟩ := statusWord_bits s
  simp only [runWait, step_poll, readRegisters_status_response, step_withEvent_engine, hbit, hb, if_true,
    ht]

/-- Settles O51: a first poll that sees BUSY is followed by the completion, and the second sees none. -/
theorem waitEndsAfterTheCompletion : Obligations.WaitEndsAfterTheCompletion := by
  intro s hq
  obtain hb | hb := Bool.eq_false_or_eq_true s.busy
  · obtain ⟨t, ht, hbusy, hinbox⟩ := engineStep_completes (readRegisters s 0x00C)
    exact ⟨_, (runWait_of_busy hb ht).trans (runWait_of_not_busy 0 hbusy), hbusy, hinbox.trans hq,
      fun hidle => by simp [hb] at hidle⟩
  · exact ⟨_, runWait_of_not_busy 1 hb, hb, hq, fun _ => rfl⟩

/-! ### FILL -/

theorem Space.start_add_lt {p : Params} (hp : p.Legal) {sp : Space} {boff : Nat} {sz : Size}
    (hok : bufferAccessOk p sp boff sz = true) : sp.start + boff < 2 ^ 27 := by
  obtain ⟨-, hboff⟩ := (target_eq_buffer_iff _ _ _).1 (target_of_bufferAccessOk hp hok)
  cases sp <;> simp only [Space.start] <;> omega

/-- A write act at an input buffer, followed by the rest of the program. -/
theorem runActs_writeBuffer {s : State} (hp : s.params.Legal) {sp : Space} (hw : sp.hostWritable = true)
    {boff : Nat} {sz : Size} (hok : bufferAccessOk s.params sp boff sz = true) (fuel : Nat) (w : Word)
    (as : List HostAct) :
    runActs fuel (.access (.write w) (sp.start + boff) sz :: as) s =
      runActs fuel as (writeBuffer s sp boff sz w) := by
  simp only [runActs, runAct, step_transactionAt s (.write w) sz (Space.start_add_lt hp hok),
    hostAccess_write_buffer hp w hw hok, writeBuffer_response, List.nil_append]
  cases runActs fuel as (writeBuffer s sp boff sz w) <;> rfl

theorem writeBuffer_params (s : State) (sp : Space) (boff : Nat) (sz : Size) (w : Word) :
    (writeBuffer s sp boff sz w).params = s.params := by
  unfold writeBuffer
  split <;> rfl

/-- The state after `W8 boff+i, b` for `i = 0 .. n-1` (30 R160). -/
def fillState (s : State) (sp : Space) (boff : Nat) (b : Byte) : (n : Nat) → State
  | 0 => s
  | n + 1 => fillState (writeBuffer s sp boff .one (b.setWidth 32)) sp (boff + 1) b n

theorem expandFill_succ (off n : Nat) (b : Byte) :
    expandFill off (n + 1) b =
      .access (.write (b.setWidth 32)) off .one :: expandFill (off + 1) n b := by
  simp [expandFill, List.range_succ_eq_map, Function.comp_def, Nat.add_comm, Nat.add_left_comm]

theorem runActs_fill {s : State} (hp : s.params.Legal) {sp : Space} (hw : sp.hostWritable = true)
    {boff n : Nat} (hfits : boff + n ≤ sp.bytes s.params) (b : Byte) (fuel : Nat) :
    runActs fuel (expandFill (sp.start + boff) n b) s = .ran (fillState s sp boff b n) [] := by
  induction n generalizing s boff with
  | zero => rfl
  | succ n ih =>
    have hok : bufferAccessOk s.params sp boff .one = true :=
      (bufferAccessOk_iff _ _ _ _).2 ⟨Nat.mod_one boff, by simp only [Size.bytes]; omega⟩
    rw [expandFill_succ, runActs_writeBuffer hp hw hok, Nat.add_assoc]
    refine ih ?_ ?_
    · rwa [writeBuffer_params]
    · rw [writeBuffer_params]; omega

theorem fillState_of_busy {s : State} (hb : s.busy = true) (sp : Space) (boff : Nat) (b : Byte) (n : Nat) :
    fillState s sp boff b (n + 1) = { s with wrDrop := true, response := some .okWrite } := by
  induction n generalizing s boff with
  | zero => exact writeBuffer_of_busy hb ..
  | succ n ih =>
    rw [fillState, writeBuffer_of_busy hb]
    exact ih (s := { s with wrDrop := true, response := some .okWrite }) hb _

theorem memWrite_byte (s : State) (sp : Space) (boff : Nat) (b : Byte) :
    memWrite s sp boff 1 (b.setWidth 32).toNat =
      { s with mem := Memory.writeBytes s.mem (sp.start + boff) [b] } := by
  rw [BitVec.toNat_setWidth_of_le (by decide)]
  simp [memWrite, Memory.writeLE, Memory.writeBytes]

theorem fillState_of_not_busy {s : State} (hb : s.busy = false) (sp : Space) (boff : Nat) (b : Byte)
    (n : Nat) :
    fillState s sp boff b (n + 1) =
      { s with mem := Memory.writeBytes s.mem (sp.start + boff) (List.replicate (n + 1) b),
               response := some .okWrite } := by
  induction n generalizing s boff with
  | zero => rw [fillState, writeBuffer_of_not_busy hb, Size.bytes, memWrite_byte]; rfl
  | succ n ih =>
    rw [fillState, writeBuffer_of_not_busy hb, Size.bytes, memWrite_byte]
    exact ih (s := { s with mem := Memory.writeBytes s.mem (sp.start + boff) [b],
                            response := some .okWrite }) hb _

theorem extractLsb'_replicated (b : Byte) {j : Nat} (hj : j < 4) :
    (b ++ b ++ b ++ b).extractLsb' (8 * j) 8 = b := by
  have next : ∀ {n : Nat} (x : BitVec n) (k : Nat),
      (x ++ b).extractLsb' (8 * (k + 1)) 8 = x.extractLsb' (8 * k) 8 := fun x k =>
    BitVec.extractLsb'_append_eq_of_le (Nat.le_mul_of_pos_right 8 k.succ_pos)
  match j, hj with
  | 0, _ => exact BitVec.extractLsb'_append_eq_right
  | 1, _ => exact (next _ 0).trans BitVec.extractLsb'_append_eq_right
  | 2, _ => exact (next _ 1).trans ((next _ 0).trans BitVec.extractLsb'_append_eq_right)
  | 3, _ => exact (next _ 2).trans ((next _ 1).trans BitVec.extractLsb'_append_eq_left)

/-- A little-endian number whose bytes are all equal is stored as that byte repeated. -/
theorem writeLE_of_equal_bytes {n v : Nat} {b : Byte} (m : Memory) (a : Nat)
    (h : ∀ j, j < n → BitVec.ofNat 8 (v / 256 ^ j) = b) :
    Memory.writeLE m a n v = Memory.writeBytes m a (List.replicate n b) := by
  induction n generalizing m a v with
  | zero => rfl
  | succ n ih =>
    have hfirst : BitVec.ofNat 8 v = b := by simpa using h 0 (Nat.succ_pos n)
    rw [Memory.writeLE, hfirst]
    refine ih _ _ fun j hj => ?_
    rw [Nat.div_div_eq_div_mul, ← Nat.pow_succ']
    exact h (j + 1) (Nat.succ_lt_succ hj)

theorem writeLE_replicated (m : Memory) (a : Nat) (b : Byte) :
    Memory.writeLE m a 4 (b ++ b ++ b ++ b : Word).toNat = Memory.writeBytes m a (List.replicate 4 b) :=
  writeLE_of_equal_bytes m a fun j hj =>
    (ofNat_div_pow_eq_extractLsb' _ j).trans (extractLsb'_replicated b hj)

/-- Settles O52: both drop their writes while BUSY = 1, and both store the same four bytes otherwise. -/
theorem fillEqualsWordWrite : Obligations.FillEqualsWordWrite := by
  intro s sp boff b fuel hp _ hsp halign hfits
  have hw := (hostWritable_iff sp).2 hsp
  have hok : bufferAccessOk s.params sp boff .four = true :=
    (bufferAccessOk_iff _ _ _ _).2 ⟨halign, hfits⟩
  have hstate : fillState s sp boff b 4 = writeBuffer s sp boff .four (b ++ b ++ b ++ b) := by
    obtain hb | hb := Bool.eq_false_or_eq_true s.busy
    · rw [fillState_of_busy hb, writeBuffer_of_busy hb]
    · rw [fillState_of_not_busy hb, writeBuffer_of_not_busy hb, memWrite, Size.bytes, writeLE_replicated]
  calc runProgram fuel [.fill (sp.start + boff) 4 b] s
      = .ran (fillState s sp boff b 4) [] := runActs_fill hp hw hfits b fuel
    _ = .ran (writeBuffer s sp boff .four (b ++ b ++ b ++ b)) [] := by rw [hstate]
    _ = runProgram fuel [.write .four (sp.start + boff) (b ++ b ++ b ++ b)] s :=
      (runActs_writeBuffer hp hw hok fuel _ []).symm

end Sys2Proof.Machine
end

section
/-! PROOF. The command protocol (spec/40): what a CMD write and the engine's step do, the completion of
every command in flight, and what an error leaves alone. -/

set_option autoImplicit false

namespace Sys2Proof.Machine

/-! ### The engine's step (40 R204) -/

theorem engineStep_of_decoded {s : State} {i : Instr} (hb : s.busy = true)
    (hd : decode s.curCmd = .ok i) : engineStep s = exec i s := by
  simp only [engineStep, hb, hd, if_true]

theorem step_of_nil {s : State} (h : s.inbox = []) : step s = engineStep s := by
  simp only [step, h]

theorem step_of_engine {s : State} {q : List HostEvent} (h : s.inbox = .engine :: q) :
    step s = engineStep (withInbox s q) := by
  simp only [step, h]

theorem step_of_bus {s : State} {x : Transaction} {q : List HostEvent} (h : s.inbox = .bus x :: q) :
    step s = busTransaction (withInbox s q) x := by
  simp only [step, h]

theorem step_of_reset {s : State} {q : List HostEvent} (h : s.inbox = .reset :: q) :
    step s = .next (hardReset (withInbox s q)) := by
  simp only [step, h]

/-- Settles O5: both kinds of step are the engine's, which decodes the word in flight. -/
theorem stepRunsTheDecodedCommand : Obligations.StepRunsTheDecodedCommand := by
  intro s i hb hd _
  exact ⟨fun hq => (step_of_nil hq).trans (engineStep_of_decoded hb hd),
    fun q hq => (step_of_engine hq).trans (engineStep_of_decoded (s := withInbox s q) hb hd)⟩

/-! ### A CMD write (40 R200 to R202) -/

theorem acceptedUnderErr_eq_false_iff (w : Word) :
    acceptedUnderErr w = false ↔ w ≠ 0x00000000#32 ∧ w ≠ 0x0000000E#32 ∧ w ≠ 0x0000000F#32 := by
  simp [acceptedUnderErr, and_assoc]

/-- A WRITE to CMD at the head of the inbox issues its word. -/
theorem step_cmdWrite {s : State} {w : Word} {q : List HostEvent}
    (hq : s.inbox = .bus ⟨.write w, s.params.base + 0x008, .four⟩ :: q) :
    step s = .next { issue (withInbox s q) w with response := some .okWrite } := by
  calc step s
      = busTransaction (withInbox s q) (transactionAt (withInbox s q) (.write w) 0x008 .four) :=
        step_of_bus hq
    _ = .next (hostAccess (withInbox s q) (.write w) 0x008 .four) :=
        busTransaction_transactionAt _ _ _ (by decide)
    _ = .next { issue (withInbox s q) w with response := some .okWrite } := by
        rw [hostAccess_write_of_regAt .cmd rfl (by decide) (by decide) nofun]
        rfl

/-- Settles O7: the transaction issues the word, and `issue` has these three outcomes. -/
theorem cmdWriteHasThreeOutcomes : Obligations.CmdWriteHasThreeOutcomes := by
  intro s w q hq
  refine ⟨_, step_cmdWrite hq, ?_⟩
  obtain ⟨hb, heq⟩ | ⟨hb, he, hw, heq⟩ | ⟨hb, hacc, heq⟩ := issue_cases (withInbox s q) w
  · rw [heq]
    exact (if_pos hb).symm
  · have hidle : ¬ s.busy = true := ne_true_of_eq_false hb
    rw [heq, if_neg hidle]
    exact (if_pos ⟨he, (acceptedUnderErr_eq_false_iff w).1 hw⟩).symm
  · have hidle : ¬ s.busy = true := ne_true_of_eq_false hb
    have hlet : ¬ (s.err = true ∧ w ≠ 0x00000000#32 ∧ w ≠ 0x0000000E#32 ∧ w ≠ 0x0000000F#32) := by
      rw [← acceptedUnderErr_eq_false_iff]
      rintro ⟨he, hw⟩
      simp [he, hw] at hacc
    rw [heq, if_neg hidle, if_neg hlet]
    rfl

/-! ### Every event is used up, and the command in flight completes (40 R204) -/

theorem abortIfFatal_params (s : State) (c : ErrorCode) : (abortIfFatal s c).params = s.params := by
  unfold abortIfFatal
  split <;> rfl

theorem exec_params {i : Instr} {s t : State} (h : exec i s = .next t) : t.params = s.params := by
  cases i with
  | nop => cases h; rfl
  | config r e => obtain ⟨_, -, rfl⟩ | ⟨-, rfl⟩ := execConfig_cases h <;> rfl
  | seqStart => obtain ⟨-, rfl⟩ | ⟨-, rfl⟩ := execSeqStart_cases h <;> rfl
  | frame =>
    obtain ⟨c, -, rfl⟩ | ⟨-, rfl⟩ := execFrame_cases h
    · exact abortIfFatal_params s c
    · rfl
  | seqFinish => obtain ⟨_, -, rfl⟩ | ⟨-, rfl⟩ := execSeqFinish_cases h <;> rfl
  | map n x => obtain ⟨_, -, rfl⟩ | ⟨-, _, -, rfl⟩ | ⟨-, -, rfl⟩ := execMap_cases h <;> rfl
  | clearErr => cases h; rfl
  | softReset => cases h; rfl

theorem engineStep_params {s t : State} (h : engineStep s = .next t) : t.params = s.params := by
  obtain ⟨-, rfl⟩ | ⟨-, i, -, hi⟩ | ⟨-, -, rfl⟩ := engineStep_cases h
  · rfl
  · exact exec_params hi
  · rfl

theorem issue_keeps_inbox_params (s : State) (w : Word) :
    (issue s w).inbox = s.inbox ∧ (issue s w).params = s.params := by
  obtain ⟨-, heq⟩ | ⟨-, -, -, heq⟩ | ⟨-, -, heq⟩ := issue_cases s w <;> rw [heq] <;> exact ⟨rfl, rfl⟩

theorem writeWindow_keeps_inbox_params (s : State) (off : Nat) (v : Word) :
    (writeWindow s off v).inbox = s.inbox ∧ (writeWindow s off v).params = s.params := by
  obtain ⟨_, _, _, _, _, heq⟩ | heq | heq | heq := writeWindow_cases s off v <;> rw [heq]
  · exact ⟨rfl, rfl⟩
  · exact issue_keeps_inbox_params s v
  · exact ⟨rfl, rfl⟩
  · exact ⟨rfl, rfl⟩

theorem writeBuffer_inbox (s : State) (sp : Space) (boff : Nat) (sz : Size) (w : Word) :
    (writeBuffer s sp boff sz w).inbox = s.inbox := by
  unfold writeBuffer
  split <;> rfl

theorem hostAccess_keeps_inbox_params (s : State) (a : Access) (off : Nat) (sz : Size) :
    (hostAccess s a off sz).inbox = s.inbox ∧ (hostAccess s a off sz).params = s.params := by
  obtain heq | ⟨-, -, heq⟩ | ⟨w, -, -, heq⟩ | ⟨sp, boff, -, -, -, heq⟩ | ⟨sp, boff, w, -, -, -, -, heq⟩ :=
    hostAccess_cases s a off sz <;> rw [heq]
  · exact ⟨rfl, rfl⟩
  · exact ⟨rfl, rfl⟩
  · exact writeWindow_keeps_inbox_params s off w
  · exact ⟨rfl, rfl⟩
  · exact ⟨writeBuffer_inbox s sp boff sz w, writeBuffer_params s sp boff sz w⟩

/-- A step uses up the head of the inbox and nothing more of it, when that is no transaction outside the
block's range. -/
theorem step_uses_up_event {s : State} {e : HostEvent} {q : List HostEvent} (hq : s.inbox = e :: q)
    (hin : ∀ x, e = .bus x → s.params.base ≤ x.addr ∧ x.addr < s.params.base + 2 ^ 27) :
    ∃ t, step s = .next t ∧ t.inbox = q ∧ t.params = s.params := by
  cases e with
  | engine =>
    obtain ⟨t, ht, -, hinbox⟩ := engineStep_completes (withInbox s q)
    exact ⟨t, (step_of_engine hq).trans ht, hinbox, engineStep_params (s := withInbox s q) ht⟩
  | bus x =>
    have hblock : inBlock s.params x.addr = true := by simpa [inBlock] using hin x rfl
    exact ⟨_, (step_of_bus hq).trans (if_pos hblock),
      hostAccess_keeps_inbox_params (withInbox s q) x.access _ x.size⟩
  | reset => exact ⟨_, step_of_reset hq, rfl, rfl⟩

theorem run_succ_of_step {s t : State} (k : Nat) (h : step s = .next t) :
    Sys2Proof.core.run (k + 1) s = Sys2Proof.core.run k t := by
  have hcore : Sys2Proof.core.step s = .next t := h
  simp only [Host.Core.run, hcore]

/-- Settles O8, by induction on the inbox: each event takes one step, and with the inbox empty the next
step is the engine's, which completes. -/
theorem commandInFlightEventuallyCompletes : Obligations.CommandInFlightEventuallyCompletes := by
  intro s hin
  generalize hq : s.inbox = q at hin ⊢
  induction q generalizing s with
  | nil =>
    obtain ⟨t, ht, hbusy, hinbox⟩ := engineStep_completes s
    exact ⟨t, run_succ_of_step 0 ((step_of_nil hq).trans ht), hbusy, hinbox.trans hq⟩
  | cons e q ih =>
    obtain ⟨u, hu, hinbox, hparams⟩ :=
      step_uses_up_event hq fun x hx => hin x (hx ▸ List.mem_cons_self)
    rw [List.length_cons, run_succ_of_step _ hu]
    exact ih u hinbox fun x hx => hparams ▸ hin x (List.mem_cons_of_mem e hx)

/-! ### Errors are precise (40 R206, R207) -/

theorem fatalForSequence_iff (c : ErrorCode) :
    fatalForSequence c = true ↔
      c = .storeFull ∨ c = .emptyPartitionRoi ∨ c = .emptyPartitionNroi := by
  cases c <;> decide

theorem boundCheck_eq_some {lo hi : F64} {c : ErrorCode} (h : boundCheck lo hi = some c) :
    c = .mapInverted ∨ c = .mapDegenerate ∨ c = .mapBoundInvalid := by
  unfold boundCheck at h
  split_ifs at h <;> cases h <;> simp

/-- What a command that raises an error leaves: the error commit of 40 R206 alone, or on a sequence that
FRAME aborts, or on the writes of a MAP with a bound error. -/
theorem exec_error_cases {i : Instr} {s t : State} (h : exec i s = .next t) (hs : s.err = false)
    (ht : t.err = true) :
    (∃ c, t = failedWith s c) ∨
    (i = .frame ∧ ∃ c, fatalForSequence c = true ∧
      t = failedWith { s with seqState := .aborted } c) ∨
    (∃ n x lo hi c, i = .map n x ∧ boundCheck lo hi = some c ∧
      t = failedWith (boundErrorWrites s lo hi) c) := by
  have noError : ∀ {u : State}, u.err = s.err → t ≠ complete u := by
    rintro u hu rfl
    simp [hu, hs] at ht
  cases i with
  | nop => cases h; exact absurd rfl (noError rfl)
  | config r e =>
    obtain ⟨c, -, rfl⟩ | ⟨-, hok⟩ := execConfig_cases h
    · exact .inl ⟨c, rfl⟩
    · exact absurd hok (noError rfl)
  | seqStart =>
    obtain ⟨-, rfl⟩ | ⟨-, hok⟩ := execSeqStart_cases h
    · exact .inl ⟨_, rfl⟩
    · exact absurd hok (noError rfl)
  | frame =>
    obtain ⟨c, hc, rfl⟩ | ⟨-, hok⟩ := execFrame_cases h
    · obtain ⟨-, hf⟩ | ⟨-, hf⟩ := frameCheck_eq_some hc
      · rw [abortIfFatal_of_not_fatal hf]; exact .inl ⟨c, rfl⟩
      · rw [abortIfFatal_of_fatal hf]; exact .inr (.inl ⟨rfl, c, hf, rfl⟩)
    · exact absurd hok (noError rfl)
  | seqFinish =>
    obtain ⟨c, -, rfl⟩ | ⟨-, hok⟩ := execSeqFinish_cases h
    · exact .inl ⟨c, rfl⟩
    · exact absurd hok (noError rfl)
  | map n x =>
    obtain ⟨c, -, rfl⟩ | ⟨-, c, hc, rfl⟩ | ⟨-, -, hok⟩ := execMap_cases h
    · exact .inl ⟨c, rfl⟩
    · exact .inr (.inr ⟨n, x, _, _, c, rfl, hc, rfl⟩)
    · exact absurd hok (noError rfl)
  | clearErr => cases h; exact absurd ht (by simp)
  | softReset => cases h; exact absurd ht (by simp)

/-- Settles O9: of the three forms of `exec_error_cases` the first moves none of the listed fields, the
second only SEQ_STATE, the third only MAP's. -/
theorem errorsArePrecise : Obligations.ErrorsArePrecise := by
  intro i s t h hs ht
  obtain ⟨c, rfl⟩ | ⟨rfl, c, hf, rfl⟩ | ⟨n, x, lo, hi, c, rfl, hc, rfl⟩ := exec_error_cases h hs ht
  · exact ⟨rfl, fun hseq => absurd rfl hseq, fun hmap => by simp [failedWith] at hmap⟩
  · exact ⟨rfl, fun _ => ⟨rfl, rfl, (fatalForSequence_iff c).1 hf⟩,
      fun hmap => by simp [failedWith] at hmap⟩
  · exact ⟨rfl, fun hseq => absurd rfl hseq, fun _ => ⟨⟨n, x, rfl⟩, rfl, rfl, boundCheck_eq_some hc⟩⟩

end Sys2Proof.Machine
end

section
/-! PROOF. The system commands (40 R210 to R212): NOP, CLEAR_ERR and SOFT_RESET. -/

set_option autoImplicit false

namespace Sys2Proof.Machine

theorem issue_acceptedUnderErr {s : State} {w : Word} (hb : s.busy = false)
    (hw : acceptedUnderErr w = true) : issue s w = accept s w := by
  simp [issue, hb, hw]

/-- DONE is the one bit of STATUS that a completion sets after a reset. -/
theorem statusWord_softReset (s : State) : statusWord (complete (resetRegisters s)) = 0x00000002#32 := by
  simp [statusWord, irq, bitAt, seqStateCode]

/-! ### NOP (40 R210) -/

/-- Opcode 0 is NOP's alone. -/
theorem eq_nop_of_opField_encode {i : Instr} (h : opField (encode i) = 0x00#8) : i = .nop := by
  cases i with
  | nop => rfl
  | config r e => rw [(Laws.EncodeFields.config r e).2] at h; simp [Laws.EncodeFields.opcodeOf] at h
  | seqStart => exact absurd h (by decide)
  | frame => exact absurd h (by decide)
  | seqFinish => exact absurd h (by decide)
  | map n x => rw [(Laws.EncodeFields.map n x).2] at h; simp [Laws.EncodeFields.opcodeOf] at h
  | clearErr => exact absurd h (by decide)
  | softReset => exact absurd h (by decide)

theorem decode_error_of_nop_opcode {w : Word} (hop : opField w = 0x00#8) (hw : w ≠ 0x00000000#32) :
    ∃ e, decode w = .error e := by
  cases hd : decode w with
  | error e => exact ⟨e, rfl⟩
  | ok i =>
    obtain rfl := (decodeIsInverseOfEncode w i).1 hd
    obtain rfl := eq_nop_of_opField_encode hop
    exact absurd rfl hw

/-- Settles O11: NOP's word is one of those ERR lets through, and the only one with its opcode that
decodes. -/
theorem nopOnlyCompletes : Obligations.NopOnlyCompletes :=
  ⟨fun _ => rfl, fun _ hb => issue_acceptedUnderErr hb rfl, decode_encode .nop,
    fun _ hop hw => decode_error_of_nop_opcode hop hw,
    fun p => ⟨_, rfl, statusWord_softReset (State.powerOn p)⟩⟩

/-! ### CLEAR_ERR (40 R211) -/

theorem errcode_clearErrors (s : State) :
    readReg (complete (clearErrors s)) .errcode = 0x00000000#32 := by
  simp [readReg, errcodeWord, errorCodeByte]

/-- Settles O12: `clearErrors` writes just these fields, and with both parts of ERRCODE 0 its word is 0. -/
theorem clearErrClearsTheError : Obligations.ClearErrClearsTheError :=
  ⟨decode_encode .clearErr, fun s => ⟨_, rfl, rfl, errcode_clearErrors s, rfl⟩⟩

/-! ### SOFT_RESET (40 R212) -/

theorem readReg_softReset (s : State) {r : Reg} (h : r ≠ .status) :
    readReg (complete (resetRegisters s)) r = readReg (State.powerOn s.params) r := by
  cases r with
  | status => exact absurd rfl h
  | _ => rfl

theorem status_offset : ∀ e ∈ regTable, e.2 = .status → e.1 = 0x00C := by decide

theorem readWindow_softReset (s : State) {off : Nat} (h : off ≠ 0x00C) :
    readWindow (complete (resetRegisters s)) off = readWindow (State.powerOn s.params) off := by
  unfold readWindow
  split
  · rfl
  · split
    · rename_i r hr
      exact readReg_softReset s fun hstatus => h (status_offset _ (regAt_mem hr) hstatus)
    · rfl

/-- Settles O13: the reset state and the one after power-on agree on every register but STATUS, whose DONE
the completion sets; with STORE_COUNT 0 and MAP_VALID 0 no byte of the two buffers is specified. -/
theorem softResetResetsRegistersKeepsBuffers : Obligations.SoftResetResetsRegistersKeepsBuffers := by
  refine ⟨decode_encode .softReset, fun s hb => issue_acceptedUnderErr hb rfl,
    fun s => ⟨complete (resetRegisters s), rfl, rfl, fun off => ?window, byteAt_of_mem_eq rfl rfl,
      fun b => ⟨?store, rfl⟩, rfl⟩⟩
  case window =>
    split_ifs with hoff
    · rw [hoff, readWindow_of_regAt (r := .status) rfl (by decide)]
      exact statusWord_softReset s
    · exact readWindow_softReset s hoff
  case store => simp [byteSpecified]

end Sys2Proof.Machine
end

section
/-! PROOF. The order of the binary64 values and the laws of rounding that need it: a pattern's place in the
order is its value's, rounding is monotone, and it keeps a value that is a finite binary64. Results are
compared in units of 2^-1074 (`F64.units`), which orders the two infinities as well. -/

set_option autoImplicit false

namespace Sys2Proof

/-! ### Patterns and values have one order -/

theorem F64.mag_lt_binade_top (x : F64) : F64.mag x < 2 ^ 52 * 2 ^ F64.expField x := by
  have hf := F64.fracField_lt x
  rw [F64.mag]
  split_ifs with h0
  · rwa [h0, pow_zero, mul_one]
  · calc (2 ^ 52 + F64.fracField x) * 2 ^ (F64.expField x - 1)
        < (2 ^ 52 * 2) * 2 ^ (F64.expField x - 1) := by gcongr; omega
      _ = 2 ^ 52 * 2 ^ F64.expField x := by
        rw [mul_assoc, ← pow_succ', Nat.sub_add_cancel (by omega)]

/-- Within an exponent the fraction decides, and a higher exponent starts where the lower one ends. -/
theorem F64.mag_lt_mag {x y : F64} (h : F64.magBits x < F64.magBits y) : F64.mag x < F64.mag y := by
  have hex := F64.expField_eq_magBits_div x
  have hey := F64.expField_eq_magBits_div y
  have hfx := F64.fracField_eq_magBits_mod x
  have hfy := F64.fracField_eq_magBits_mod y
  rcases (by omega : F64.expField x = F64.expField y ∨ F64.expField x < F64.expField y) with he | he
  · have hf : F64.fracField x < F64.fracField y := by omega
    rw [F64.mag, F64.mag, he]
    split_ifs
    · exact hf
    · gcongr
  · calc F64.mag x < 2 ^ 52 * 2 ^ F64.expField x := F64.mag_lt_binade_top x
      _ ≤ (2 ^ 52 + F64.fracField y) * 2 ^ (F64.expField y - 1) := by gcongr <;> omega
      _ = F64.mag y := by rw [F64.mag, if_neg (by omega)]

theorem F64.mag_le_mag_iff {x y : F64} : F64.mag x ≤ F64.mag y ↔ F64.magBits x ≤ F64.magBits y := by
  constructor
  · intro h
    by_contra hlt
    exact absurd (F64.mag_lt_mag (not_le.1 hlt)) (not_lt.2 h)
  · intro h
    rcases h.lt_or_eq with hlt | heq
    · exact (F64.mag_lt_mag hlt).le
    · exact (F64.mag_congr heq).le

theorem F64.rank_le_rank_iff {x y : F64} : F64.rank x ≤ F64.rank y ↔ F64.units x ≤ F64.units y := by
  have hxy := @F64.mag_le_mag_iff x y
  have hyx := @F64.mag_le_mag_iff y x
  have hx := F64.mag_eq_zero_iff x
  have hy := F64.mag_eq_zero_iff y
  simp only [F64.isZero, beq_iff_eq] at hx hy
  rw [F64.rank, F64.rank, F64.units, F64.units]
  split_ifs <;> omega

theorem F64.le_iff {x y : F64} :
    F64.le x y = true ↔
      F64.isNaN x = false ∧ F64.isNaN y = false ∧ F64.units x ≤ F64.units y := by
  simp [F64.le, F64.rank_le_rank_iff, and_assoc]

theorem F64.lt_iff {x y : F64} :
    F64.lt x y = true ↔
      F64.isNaN x = false ∧ F64.isNaN y = false ∧ F64.units x < F64.units y := by
  have h := (@F64.rank_le_rank_iff y x).not
  rw [not_le, not_le] at h
  simp [F64.lt, h, and_assoc]

theorem F64.eq_iff {x y : F64} :
    F64.eq x y = true ↔
      F64.isNaN x = false ∧ F64.isNaN y = false ∧ F64.units x = F64.units y := by
  have h : F64.rank x = F64.rank y ↔ F64.units x = F64.units y := by
    simp only [le_antisymm_iff, F64.rank_le_rank_iff]
  simp [F64.eq, h, and_assoc]

/-- Among magnitudes the finite ones lie below infinity's. -/
theorem F64.finite_of_mag_le {x y : F64} (hy : F64.finite y = true) (h : F64.mag x ≤ F64.mag y) :
    F64.finite x = true := by
  rw [F64.finite_iff_magBits_lt] at *
  exact (F64.mag_le_mag_iff.1 h).trans_lt hy

theorem F64.natAbs_units (x : F64) : (F64.units x).natAbs = F64.mag x := by
  rw [F64.units]; split_ifs <;> omega

theorem F64.finite_of_units_between {a b x : F64} (ha : F64.finite a = true) (hb : F64.finite b = true)
    (hax : F64.units a ≤ F64.units x) (hxb : F64.units x ≤ F64.units b) : F64.finite x = true := by
  have na := F64.natAbs_units a
  have nb := F64.natAbs_units b
  have nx := F64.natAbs_units x
  rcases (by omega : F64.mag x ≤ F64.mag a ∨ F64.mag x ≤ F64.mag b) with h | h
  · exact F64.finite_of_mag_le ha h
  · exact F64.finite_of_mag_le hb h

theorem F64.mag_of_units_pos {x : F64} (h : 0 < F64.units x) : (F64.mag x : Int) = F64.units x := by
  have := F64.natAbs_units x
  omega

theorem F64.finite_or_isInf {x : F64} (h : F64.isNaN x = false) :
    F64.finite x = true ∨ F64.isInf x = true := by
  by_cases hexp : F64.expField x = 0x7FF <;> simp_all [F64.finite, F64.isNaN, F64.isInf]

/-! ### Rounding is monotone -/

/-- Whole quotients follow the order of the fractions n1/d1 ≤ n2/d2. -/
theorem F64.div_le_div_of_cross {n₁ d₁ n₂ d₂ : Nat} (hd₁ : 0 < d₁) (hd₂ : 0 < d₂)
    (h : n₁ * d₂ ≤ n₂ * d₁) : n₁ / d₁ ≤ n₂ / d₂ := by
  rw [Nat.le_div_iff_mul_le hd₂]
  refine Nat.le_of_mul_le_mul_right ?_ hd₁
  calc n₁ / d₁ * d₂ * d₁ = n₁ / d₁ * d₁ * d₂ := by ring
    _ ≤ n₁ * d₂ := by gcongr; exact Nat.div_mul_le_self n₁ d₁
    _ ≤ n₂ * d₁ := h

/-- With one whole quotient the remainders decide, and a tie on both sides is broken alike. -/
theorem F64.roundDiv_mono {n₁ d₁ n₂ d₂ : Nat} (hd₁ : 0 < d₁) (hd₂ : 0 < d₂)
    (h : n₁ * d₂ ≤ n₂ * d₁) : F64.roundDiv n₁ d₁ ≤ F64.roundDiv n₂ d₂ := by
  rcases (F64.div_le_div_of_cross hd₁ hd₂ h).lt_or_eq with hq | hq
  · have h₁ := F64.roundDiv_le n₁ d₁
    have h₂ := F64.le_roundDiv n₂ d₂
    omega
  · have hrem : n₁ % d₁ * d₂ ≤ n₂ % d₂ * d₁ := by
      have e₁ := Nat.div_add_mod n₁ d₁
      have e₂ := Nat.div_add_mod n₂ d₂
      rw [hq] at e₁
      nlinarith
    have hhalf : d₁ ≤ 2 * (n₁ % d₁) → d₂ ≤ 2 * (n₂ % d₂) := by
      intro hle; nlinarith
    have habove : d₁ < 2 * (n₁ % d₁) → d₂ < 2 * (n₂ % d₂) := by
      intro hlt; nlinarith
    rw [F64.roundDiv, F64.roundDiv, hq]
    split_ifs <;> omega

theorem F64.shiftOf_mono {n₁ d₁ n₂ d₂ : Nat} (h : n₁ / d₁ ≤ n₂ / d₂) :
    F64.shiftOf n₁ d₁ ≤ F64.shiftOf n₂ d₂ := by
  have hlog : Nat.log2 (n₁ / d₁) ≤ Nat.log2 (n₂ / d₂) := by
    rw [Nat.log2_eq_log_two, Nat.log2_eq_log_two]; exact Nat.log_mono_right h
  rw [F64.shiftOf, F64.shiftOf]
  split_ifs <;> omega

/-- In one binade the significands decide; a lower binade's patterns end where the next one's start. -/
theorem F64.roundMag_mono {n₁ d₁ n₂ d₂ : Nat} (hd₁ : 0 < d₁) (hd₂ : 0 < d₂)
    (h : n₁ * d₂ ≤ n₂ * d₁) : F64.roundMag n₁ d₁ ≤ F64.roundMag n₂ d₂ := by
  rw [F64.roundMag_eq, F64.roundMag_eq]
  refine min_le_min_right _ ?_
  rcases (F64.shiftOf_mono (F64.div_le_div_of_cross hd₁ hd₂ h)).lt_or_eq with hs | hs
  · have h₁ := F64.significand_le n₁ d₁
    have h₂ := F64.le_significand n₂ d₂ (by omega)
    omega
  · have hsig : F64.significand n₁ d₁ ≤ F64.significand n₂ d₂ := by
      rw [F64.significand, F64.significand, hs]
      refine F64.roundDiv_mono (by positivity) (by positivity) ?_
      rw [← mul_assoc, ← mul_assoc]
      gcongr
    rw [hs]; omega

/-! ### Rounding keeps what needs no rounding -/

theorem F64.shiftOf_le_of_lt {n s : Nat} (h : n < 2 ^ 53 * 2 ^ s) : F64.shiftOf n 1 ≤ s := by
  by_contra hlt
  have hbin := F64.binade_le n 1 (by omega)
  rw [Nat.div_one] at hbin
  have : 2 ^ 53 * 2 ^ s ≤ 2 ^ 52 * 2 ^ F64.shiftOf n 1 := by
    calc 2 ^ 53 * 2 ^ s = 2 ^ 52 * 2 ^ (s + 1) := by rw [pow_succ 2 52, pow_succ 2 s]; ring
      _ ≤ 2 ^ 52 * 2 ^ F64.shiftOf n 1 := by gcongr <;> omega
  omega

theorem F64.roundDiv_mul_self (m : Nat) {d : Nat} (hd : 0 < d) : F64.roundDiv (d * m) d = m := by
  rw [F64.roundDiv, Nat.mul_mod_right, if_pos (by omega), Nat.mul_div_cancel_left _ hd]

/-- A number of at most 53 bits above its lowest 2^s is its own significand, at its last place. -/
theorem F64.significand_mul_eq {n s : Nat} (hlt : n < 2 ^ 53 * 2 ^ s) (hdvd : 2 ^ s ∣ n) :
    F64.significand n 1 * 2 ^ F64.shiftOf n 1 = n := by
  obtain ⟨m, hm⟩ := (pow_dvd_pow 2 (F64.shiftOf_le_of_lt hlt)).trans hdvd
  have hround := F64.roundDiv_mul_self m (Nat.two_pow_pos (F64.shiftOf n 1))
  rw [← hm] at hround
  rw [F64.significand, one_mul, hround, mul_comm, ← hm]

theorem F64.roundMag_eq_of_shift_le {n d : Nat} (h : F64.shiftOf n d ≤ 2045) :
    F64.roundMag n d = F64.shiftOf n d * 2 ^ 52 + F64.significand n d := by
  have := F64.significand_le n d
  rw [F64.roundMag_eq, F64.infBits_eq]; omega

theorem F64.roundMag_mag {x : F64} (h : F64.finite x = true) :
    F64.roundMag (F64.mag x) 1 = F64.magBits x := by
  have hexp : F64.expField x - 1 ≤ 2045 := by
    have := F64.expField_lt x
    simp only [F64.finite, bne_iff_ne, ne_eq] at h
    omega
  have hlt : F64.mag x < 2 ^ 53 * 2 ^ (F64.expField x - 1) :=
    calc F64.mag x < 2 ^ 52 * 2 ^ F64.expField x := F64.mag_lt_binade_top x
      _ ≤ 2 ^ 52 * 2 ^ (F64.expField x - 1 + 1) := by gcongr <;> omega
      _ = 2 ^ 53 * 2 ^ (F64.expField x - 1) := by rw [pow_succ 2 52, pow_succ]; ring
  have hdvd : 2 ^ (F64.expField x - 1) ∣ F64.mag x := by
    rw [F64.mag]
    split_ifs with h0
    · simp [h0]
    · exact Dvd.intro_left _ rfl
  have hround := F64.roundMag_eq_of_shift_le ((F64.shiftOf_le_of_lt hlt).trans hexp)
  have hbits := F64.magBits_pack false (F64.roundMag_lt (F64.mag x) 1)
  have hmag : F64.mag (F64.pack false (F64.roundMag (F64.mag x) 1)) = F64.mag x := by
    rw [F64.mag_of_magBits (hbits.trans hround) (F64.significand_le _ _) (F64.le_significand _ _),
      F64.significand_mul_eq hlt hdvd]
  rw [← hbits]
  exact le_antisymm (F64.mag_le_mag_iff.1 hmag.le) (F64.mag_le_mag_iff.1 hmag.ge)

/-! ### Roundings of signed fractions -/

theorem F64.pack_neg_magBits (x : F64) : F64.pack (F64.neg x) (F64.magBits x) = x := by
  have hlt : F64.magBits x < 2 ^ 63 := Nat.mod_lt _ (by decide)
  have hx := x.isLt
  apply BitVec.eq_of_toNat_eq
  rw [F64.toNat_pack _ hlt, F64.neg, BitVec.getLsbD, Nat.testBit_eq_decide_div_mod_eq, F64.magBits]
  simp only [decide_eq_true_eq]
  split_ifs <;> omega

theorem F64.isNaN_pack_roundMag (s : Bool) (n d : Nat) :
    F64.isNaN (F64.pack s (F64.roundMag n d)) = false := by
  have hbits := F64.magBits_pack s (F64.roundMag_lt n d)
  have hle : F64.roundMag n d ≤ F64.infBits := min_le_right _ _
  rw [← hbits, F64.infBits_eq] at hle
  have hexp := F64.expField_eq_magBits_div (F64.pack s (F64.roundMag n d))
  have hfrac := F64.fracField_eq_magBits_mod (F64.pack s (F64.roundMag n d))
  rw [F64.isNaN, Bool.and_eq_false_iff, beq_eq_false_iff_ne, bne_eq_false_iff_eq]
  omega

/-- r is the packed rounding of k/d units. The sign of a zero is left open. -/
def F64.RoundsTo (r : F64) (k : Int) (d : Nat) : Prop :=
  ∃ (s : Bool) (n : Nat), r = F64.pack s (F64.roundMag n d) ∧ F64.signed s n = k

section RoundsTo

variable {r r₁ r₂ z : F64} {k k₁ k₂ : Int} {d d₁ d₂ : Nat}

theorem F64.roundsTo_self (h : F64.finite z = true) : F64.RoundsTo z (F64.units z) 1 :=
  ⟨F64.neg z, F64.mag z, by rw [F64.roundMag_mag h, F64.pack_neg_magBits], rfl⟩

theorem F64.RoundsTo.isNaN_eq_false (h : F64.RoundsTo r k d) : F64.isNaN r = false := by
  obtain ⟨s, n, rfl, -⟩ := h
  exact F64.isNaN_pack_roundMag s n d

/-- Rounding is monotone, with the signs: k1/d1 ≤ k2/d2 gives results in that order. -/
theorem F64.RoundsTo.mono (h₁ : F64.RoundsTo r₁ k₁ d₁) (h₂ : F64.RoundsTo r₂ k₂ d₂)
    (hd₁ : 0 < d₁) (hd₂ : 0 < d₂) (h : k₁ * d₂ ≤ k₂ * d₁) : F64.units r₁ ≤ F64.units r₂ := by
  obtain ⟨s₁, n₁, rfl, rfl⟩ := h₁
  obtain ⟨s₂, n₂, rfl, rfl⟩ := h₂
  rw [← F64.rank_le_rank_iff, F64.rank, F64.rank, F64.neg_pack _ (F64.roundMag_lt _ _),
    F64.neg_pack _ (F64.roundMag_lt _ _), F64.magBits_pack _ (F64.roundMag_lt _ _),
    F64.magBits_pack _ (F64.roundMag_lt _ _)]
  rw [F64.signed_mul, F64.signed_mul] at h
  have hnn₁ : 0 ≤ (n₁ : Int) * d₂ := by positivity
  have hnn₂ : 0 ≤ (n₂ : Int) * d₁ := by positivity
  cases s₁ <;> cases s₂ <;>
    simp only [F64.signed_true, F64.signed_false, if_true, Bool.false_eq_true, if_false] at h ⊢
  case false.false =>
    exact_mod_cast F64.roundMag_mono hd₁ hd₂ (by exact_mod_cast h)
  case true.true =>
    have := F64.roundMag_mono hd₂ hd₁ (by exact_mod_cast neg_le_neg_iff.1 h)
    omega
  case true.false => omega
  case false.true =>
    have hn₁ : n₁ = 0 := by
      have : (n₁ : Int) * d₂ = 0 := by omega
      simpa [hd₂.ne'] using this
    have hn₂ : n₂ = 0 := by
      have : (n₂ : Int) * d₁ = 0 := by omega
      simpa [hd₁.ne'] using this
    simp [hn₁, hn₂, F64.roundMag_zero]

theorem F64.RoundsTo.units_le (h : F64.RoundsTo r k d) (hd : 0 < d) (hz : F64.finite z = true)
    (hk : k ≤ F64.units z * d) : F64.units r ≤ F64.units z :=
  h.mono (F64.roundsTo_self hz) hd one_pos (by simpa using hk)

theorem F64.RoundsTo.le_units (h : F64.RoundsTo r k d) (hd : 0 < d) (hz : F64.finite z = true)
    (hk : F64.units z * d ≤ k) : F64.units z ≤ F64.units r :=
  (F64.roundsTo_self hz).mono h one_pos hd (by simpa using hk)

/-- A finite value is rounded to itself. -/
theorem F64.RoundsTo.units_eq (h : F64.RoundsTo r k d) (hd : 0 < d) (hz : F64.finite z = true)
    (hk : k = F64.units z * d) : F64.units r = F64.units z :=
  le_antisymm (h.units_le hd hz hk.le) (h.le_units hd hz hk.ge)

end RoundsTo

/-! ### Each operation is a rounding -/

theorem F64.roundsTo_add {x y : F64} (hx : F64.finite x = true) (hy : F64.finite y = true) :
    F64.RoundsTo (F64.add x y) (F64.units x + F64.units y) 1 := by
  obtain ⟨s, hadd, hsum⟩ := F64.add_eq_pack hx hy
  exact ⟨s, _, hadd, hsum⟩

theorem F64.roundsTo_sub {x y : F64} (hx : F64.finite x = true) (hy : F64.finite y = true) :
    F64.RoundsTo (F64.sub x y) (F64.units x - F64.units y) 1 := by
  have := F64.roundsTo_add hx ((F64.finite_negate y).trans hy)
  rwa [F64.units_negate, ← sub_eq_add_neg] at this

theorem F64.roundsTo_mul {x y : F64} (hx : F64.finite x = true) (hy : F64.finite y = true) :
    F64.RoundsTo (F64.mul x y) (F64.units x * F64.units y) F64.unit :=
  ⟨_, _, F64.mul_eq_pack hx hy, by
    rw [F64.units_eq_signed x, F64.units_eq_signed y, F64.signed_mul_signed, Nat.cast_mul]⟩

theorem F64.roundsTo_div {x y : F64} (hx : F64.finite x = true) (hy : F64.finite y = true)
    (hpos : 0 < F64.units y) :
    F64.RoundsTo (F64.div x y) (F64.units x * F64.unit) (F64.mag y) := by
  have hmag := F64.mag_of_units_pos hpos
  have hneg : F64.neg y = false := by
    rw [F64.units_eq_signed] at hpos hmag
    cases h : F64.neg y
    · rfl
    · rw [h, F64.signed_true] at hpos; omega
  refine ⟨_, _, F64.div_eq_pack hx hy (by omega), ?_⟩
  rw [hneg, Bool.bne_false, F64.units_eq_signed x, F64.signed_mul, Nat.cast_mul]

/-- A common factor of the fraction does not matter. -/
theorem F64.NearestEven.of_mul {r : F64} {k d c : Int} (hc : 0 < c)
    (h : F64.NearestEven r (k * c) (d * c)) : F64.NearestEven r k d := by
  have hdist : ∀ u : Int, |u * (d * c) - k * c| = |u * d - k| * c := by
    intro u
    rw [← mul_assoc, ← sub_mul, abs_mul, abs_of_pos hc]
  simpa only [F64.NearestEven, hdist, mul_le_mul_iff_left₀ hc, mul_left_inj' hc.ne'] using h

end Sys2Proof
end

section
/-! PROOF. toF64 (41 R253), the constants' patterns, the operands that infinities and NaNs come from, and the
operations on finite values as monotone functions with exact end points. -/

set_option autoImplicit false

namespace Sys2Proof

/-! ### toF64 (41 R253) -/

theorem F64.unit_dvd (n : Nat) : 2 ^ 1074 ∣ n * F64.unit := Dvd.intro_left n rfl

theorem F64.mul_unit_lt {n : Nat} (h : n < 2 ^ 53) : n * F64.unit < 2 ^ 53 * 2 ^ 1074 := by
  rw [F64.unit]; gcongr

theorem F64.neg_ofNat (n : Nat) : F64.neg (F64.ofNat n) = false :=
  F64.neg_pack false (F64.roundMag_lt _ _)

theorem F64.roundMag_ofNat_lt {n : Nat} (h : n < 2 ^ 53) :
    F64.roundMag (n * F64.unit) 1 < F64.infBits := by
  have hshift := F64.shiftOf_le_of_lt (F64.mul_unit_lt h)
  have hsig := F64.significand_le (n * F64.unit) 1
  rw [F64.roundMag_eq_of_shift_le (by omega), F64.infBits_eq]
  omega

theorem F64.finite_ofNat {n : Nat} (h : n < 2 ^ 53) : F64.finite (F64.ofNat n) = true := by
  rw [F64.finite_iff_magBits_lt, F64.ofNat, F64.magBits_pack _ (F64.roundMag_lt _ _)]
  exact F64.roundMag_ofNat_lt h

theorem F64.units_ofNat {n : Nat} (h : n < 2 ^ 53) :
    F64.units (F64.ofNat n) = (n : Int) * F64.unit := by
  rw [F64.ofNat, F64.units_pack_roundMag false (F64.roundMag_ofNat_lt h), F64.signed_false]
  exact_mod_cast F64.significand_mul_eq (F64.mul_unit_lt h) (F64.unit_dvd n)

theorem F64.mag_ofNat {n : Nat} (h : n < 2 ^ 53) : F64.mag (F64.ofNat n) = n * F64.unit := by
  rw [← F64.natAbs_units, F64.units_ofNat h]; exact_mod_cast Int.natAbs_natCast _

theorem F64.units_ofNat_pos {n : Nat} (hpos : 1 ≤ n) (h : n < 2 ^ 53) :
    0 < F64.units (F64.ofNat n) := by
  rw [F64.units_ofNat h]
  exact_mod_cast Nat.mul_pos hpos F64.unit_pos

theorem F64.units_one : F64.units (F64.ofNat 1) = F64.unit := by
  rw [F64.units_ofNat (by decide), Nat.cast_one, one_mul]

/-- Settles O32: below 2^53 an integer is its own significand at its last place. -/
theorem integerConversionIsExact : Obligations.IntegerConversionIsExact := by
  intro n hn
  refine ⟨F64.finite_ofNat hn, ?_⟩
  rw [F64.units_ofNat hn, F64.natCast_unit]

/-! ### Constants and special operands -/

theorem F64.ofNat_six : F64.ofNat 6 = 0x4018000000000000#64 := by decide +kernel
theorem F64.ofNat_eight : F64.ofNat 8 = 0x4020000000000000#64 := by decide +kernel
theorem F64.ofNat_ten : F64.ofNat 10 = 0x4024000000000000#64 := by decide +kernel
theorem F64.ofNat_hundred : F64.ofNat 100 = 0x4059000000000000#64 := by decide +kernel
theorem F64.ofNat_255 : F64.ofNat 255 = 0x406FE00000000000#64 := by decide +kernel
theorem F64.ofNat_65025 : F64.ofNat 65025 = 0x40EFC02000000000#64 := by decide +kernel

theorem F64.finite_zero : F64.finite 0#64 = true := by decide
theorem F64.units_zero : F64.units 0#64 = 0 := by decide
theorem F64.zero_false : F64.zero false = 0#64 := by decide

/-- The least positive value is one unit. -/
theorem F64.finite_one_unit : F64.finite 1#64 = true := by decide
theorem F64.units_one_unit : F64.units 1#64 = 1 := by decide

/-- The quiet bit and the payload keep the pattern above infinity's. -/
theorem F64.not_finite_nan (x y : F64) : F64.finite (F64.nan x y) = false := by
  have hlt : F64.infBits + 2 ^ 51 + (Config.nanBits x y).toNat % 2 ^ 51 < 2 ^ 63 := by
    rw [F64.infBits_eq]; omega
  rw [← Bool.not_eq_true, F64.finite_iff_magBits_lt, F64.nan, F64.magBits_pack _ hlt]
  omega

theorem F64.not_finite_inf (s : Bool) : F64.finite (F64.inf s) = false := by
  cases s <;> decide

theorem F64.isNaN_inf (s : Bool) : F64.isNaN (F64.inf s) = false := by
  cases s <;> decide

theorem F64.not_finite_of_isInf {x : F64} (h : F64.isInf x = true) : F64.finite x = false := by
  simp_all [F64.finite, F64.isInf]

theorem F64.isZero_of_isInf {x : F64} (h : F64.isInf x = true) : F64.isZero x = false := by
  have hexp := F64.expField_eq_magBits_div x
  simp only [F64.isInf, Bool.and_eq_true, beq_iff_eq] at h
  rw [F64.isZero, beq_eq_false_iff_ne]
  omega

theorem F64.isZero_eq_false {x : F64} (h : F64.units x ≠ 0) : F64.isZero x = false := by
  rw [← Bool.not_eq_true, ← F64.mag_eq_zero_iff, ← F64.natAbs_units]
  omega

/-! ### Which operands a finite result has -/

theorem F64.finite_of_finite_add {x y : F64} (h : F64.finite (F64.add x y) = true) :
    F64.finite x = true ∧ F64.finite y = true := by
  rw [F64.add] at h
  split_ifs at h with hnan hx hopp hy
  case pos => simp [F64.not_finite_nan] at h
  case pos => simp [F64.not_finite_nan] at h
  case neg => simp [F64.not_finite_of_isInf hx] at h
  case pos => simp [F64.not_finite_of_isInf hy] at h
  all_goals
    simp only [Bool.or_eq_true, not_or, Bool.not_eq_true] at hnan
    exact ⟨(F64.finite_or_isInf hnan.1).resolve_right hx, (F64.finite_or_isInf hnan.2).resolve_right hy⟩

theorem F64.finite_of_finite_sub {x y : F64} (h : F64.finite (F64.sub x y) = true) :
    F64.finite x = true ∧ F64.finite y = true := by
  have := F64.finite_of_finite_add h
  rwa [F64.finite_negate] at this

theorem F64.finite_of_finite_mul {x y : F64} (h : F64.finite (F64.mul x y) = true) :
    F64.finite x = true ∧ F64.finite y = true := by
  rw [F64.mul] at h
  split_ifs at h with hnan hinf hzero
  case pos => simp [F64.not_finite_nan] at h
  case pos => simp [F64.not_finite_nan] at h
  case neg => simp [F64.not_finite_inf] at h
  case neg =>
    simp only [Bool.or_eq_true, not_or, Bool.not_eq_true] at hnan hinf
    exact ⟨(F64.finite_or_isInf hnan.1).resolve_right (by simp [hinf.1]),
      (F64.finite_or_isInf hnan.2).resolve_right (by simp [hinf.2])⟩

/-- Only two opposite infinities make a NaN of a sum of numbers. -/
theorem F64.isNaN_add_of_finite {x y : F64} (hx : F64.finite x = true) (hy : F64.isNaN y = false) :
    F64.isNaN (F64.add x y) = false := by
  rcases F64.finite_or_isInf hy with hfin | hinf
  · exact (F64.roundsTo_add hx hfin).isNaN_eq_false
  · simp [F64.add, F64.isNaN_of_finite hx, F64.isInf_of_finite hx, hy, hinf]

/-- Only a zero times an infinity makes a NaN of a product of numbers. -/
theorem F64.isNaN_mul_of_finite {x y : F64} (hx : F64.isNaN x = false) (hy : F64.finite y = true)
    (h0 : F64.units y ≠ 0) : F64.isNaN (F64.mul x y) = false := by
  rcases F64.finite_or_isInf hx with hfin | hinf
  · exact (F64.roundsTo_mul hfin hy).isNaN_eq_false
  · simp [F64.mul, hx, F64.isNaN_of_finite hy, hinf, F64.isZero_of_isInf hinf,
      F64.isZero_eq_false h0, F64.isNaN_inf]

/-! ### Monotone operations and their end points -/

theorem F64.sub_mono {x y z : F64} (hx : F64.finite x = true) (hy : F64.finite y = true)
    (hz : F64.finite z = true) (h : F64.units x ≤ F64.units y) :
    F64.units (F64.sub x z) ≤ F64.units (F64.sub y z) := by
  refine (F64.roundsTo_sub hx hz).mono (F64.roundsTo_sub hy hz) one_pos one_pos ?_
  omega

theorem F64.units_sub_of_eq {x y : F64} (hx : F64.finite x = true) (hy : F64.finite y = true)
    (h : F64.units x = F64.units y) : F64.units (F64.sub x y) = 0 := by
  have := (F64.roundsTo_sub hx hy).units_eq one_pos F64.finite_zero
    (by rw [h, sub_self, F64.units_zero, zero_mul])
  rwa [F64.units_zero] at this

theorem F64.mul_comm_of_finite {x y : F64} (hx : F64.finite x = true) (hy : F64.finite y = true) :
    F64.mul x y = F64.mul y x := by
  rw [F64.mul_eq_pack hx hy, F64.mul_eq_pack hy hx, bne_comm, Nat.mul_comm]

/-- A product with a factor that is not negative keeps the order. -/
theorem F64.mul_mono {c x y : F64} (hc : F64.finite c = true) (hc0 : 0 ≤ F64.units c)
    (hx : F64.finite x = true) (hy : F64.finite y = true) (h : F64.units x ≤ F64.units y) :
    F64.units (F64.mul c x) ≤ F64.units (F64.mul c y) := by
  refine (F64.roundsTo_mul hc hx).mono (F64.roundsTo_mul hc hy) F64.unit_pos F64.unit_pos ?_
  gcongr

section DivByPositive

variable {d : F64} (hd : F64.finite d = true) (hpos : 0 < F64.units d)
include hd hpos

theorem F64.div_mono {x y : F64} (hx : F64.finite x = true) (hy : F64.finite y = true)
    (h : F64.units x ≤ F64.units y) : F64.units (F64.div x d) ≤ F64.units (F64.div y d) := by
  have hmag := F64.mag_of_units_pos hpos
  refine (F64.roundsTo_div hx hd hpos).mono (F64.roundsTo_div hy hd hpos) (by omega) (by omega) ?_
  exact mul_le_mul_of_nonneg_right (mul_le_mul_of_nonneg_right h (Int.natCast_nonneg _))
    (Int.natCast_nonneg _)

theorem F64.units_div_of_zero {x : F64} (hx : F64.finite x = true) (h : F64.units x = 0) :
    F64.units (F64.div x d) = 0 := by
  have hmag := F64.mag_of_units_pos hpos
  have := (F64.roundsTo_div hx hd hpos).units_eq (by omega) F64.finite_zero
    (by rw [h, F64.units_zero, zero_mul, zero_mul])
  rwa [F64.units_zero] at this

theorem F64.units_div_of_eq {x : F64} (hx : F64.finite x = true) (h : F64.units x = F64.units d) :
    F64.units (F64.div x d) = F64.unit := by
  have hmag := F64.mag_of_units_pos hpos
  have := (F64.roundsTo_div hx hd hpos).units_eq (by omega) (F64.finite_ofNat (n := 1) (by decide))
    (by rw [h, F64.units_one, hmag, mul_comm])
  rwa [F64.units_one] at this

/-- A quotient by an upper bound of the dividend is at most 1.0. -/
theorem F64.units_div_between {x : F64} (hx : F64.finite x = true) (h0 : 0 ≤ F64.units x)
    (hle : F64.units x ≤ F64.units d) :
    0 ≤ F64.units (F64.div x d) ∧ F64.units (F64.div x d) ≤ F64.unit := by
  rw [← F64.units_zero] at h0
  have hlow := F64.div_mono hd hpos F64.finite_zero hx h0
  have hhigh := F64.div_mono hd hpos hx hd hle
  rw [F64.units_div_of_zero hd hpos F64.finite_zero F64.units_zero] at hlow
  rw [F64.units_div_of_eq hd hpos hd rfl] at hhigh
  exact ⟨hlow, hhigh⟩

end DivByPositive

theorem F64.units_mul_of_zero {x c : F64} (hx : F64.finite x = true) (hc : F64.finite c = true)
    (h : F64.units x = 0) : F64.units (F64.mul x c) = 0 := by
  have := (F64.roundsTo_mul hx hc).units_eq F64.unit_pos F64.finite_zero
    (by rw [h, F64.units_zero, zero_mul, zero_mul])
  rwa [F64.units_zero] at this

theorem F64.units_mul_of_one {x c : F64} (hx : F64.finite x = true) (hc : F64.finite c = true)
    (h : F64.units x = F64.unit) : F64.units (F64.mul x c) = F64.units c :=
  (F64.roundsTo_mul hx hc).units_eq F64.unit_pos hc (by rw [h, mul_comm])

end Sys2Proof
end

section
/-! PROOF. MSEF, PSNRF and WPSNRF (41 R254 to R258, R262, R263): the MSE is an exact quotient rounded once, and
PSNRF is a chain of monotone roundings. -/

set_option autoImplicit false

namespace Sys2Proof

/-! ### MSEF, PSNRF and WPSNRF (41 R254, R255, R258) -/

section Msef

variable {ssd cnt : Nat} (hssd : ssd < 2 ^ 53) (hcnt : 1 ≤ cnt) (hcnt' : cnt < 2 ^ 53)
include hssd hcnt hcnt'

/-- The MSE lies between 0 and the SSD. -/
theorem units_msef_between :
    0 ≤ F64.units (msef ssd cnt) ∧ F64.units (msef ssd cnt) ≤ F64.units (F64.ofNat ssd) := by
  have hround := F64.roundsTo_div (F64.finite_ofNat hssd) (F64.finite_ofNat hcnt')
    (F64.units_ofNat_pos hcnt hcnt')
  rw [F64.mag_ofNat hcnt'] at hround
  have hd : 0 < cnt * F64.unit := Nat.mul_pos hcnt F64.unit_pos
  have hnum : 0 ≤ F64.units (F64.ofNat ssd) := by
    rw [F64.units_ofNat hssd]; exact_mod_cast Nat.zero_le _
  constructor
  · have := hround.le_units hd F64.finite_zero
      (by rw [F64.units_zero, zero_mul]; exact mul_nonneg hnum (Int.natCast_nonneg _))
    rwa [F64.units_zero] at this
  · refine hround.units_le hd (F64.finite_ofNat hssd) (mul_le_mul_of_nonneg_left ?_ hnum)
    exact_mod_cast Nat.le_mul_of_pos_left _ hcnt

theorem finite_msef : F64.finite (msef ssd cnt) = true := by
  obtain ⟨hlow, hhigh⟩ := units_msef_between hssd hcnt hcnt'
  rw [← F64.units_zero] at hlow
  exact F64.finite_of_units_between F64.finite_zero (F64.finite_ofNat hssd) hlow hhigh

theorem nearestEven_msef :
    F64.NearestEven (msef ssd cnt) (ssd * (F64.unit : Nat)) cnt := by
  have hpos := F64.units_ofNat_pos hcnt hcnt'
  have hmag := F64.mag_of_units_pos hpos
  have := F64.nearestEven_div (F64.finite_ofNat hssd) (F64.finite_ofNat hcnt') (by omega)
    (finite_msef hssd hcnt hcnt')
  rw [F64.units_ofNat hssd, F64.units_ofNat hcnt'] at this
  exact this.of_mul (by exact_mod_cast F64.unit_pos)

end Msef

theorem msef_zero {cnt : Nat} (hcnt : 1 ≤ cnt) (hcnt' : cnt < 2 ^ 53) : msef 0 cnt = 0#64 := by
  have hmag : F64.mag (F64.ofNat cnt) ≠ 0 := by
    rw [F64.mag_ofNat hcnt']
    exact (Nat.mul_pos hcnt F64.unit_pos).ne'
  rw [msef, F64.div_eq_pack (F64.finite_ofNat (by decide)) (F64.finite_ofNat hcnt') hmag,
    F64.mag_ofNat (by decide), F64.neg_ofNat, F64.neg_ofNat, Nat.zero_mul, Nat.zero_mul,
    F64.roundMag_zero]
  rfl

theorem psnrWith_of_pos (log : F64 → F64) {m : F64} (h : 0 < F64.units m) :
    psnrWith log m = F64.mul (F64.ofNat 10) (log (F64.div peak2 m)) := by
  refine ((psnrWith_cases log m).resolve_left ?_).2
  rintro ⟨heq, -⟩
  obtain ⟨-, -, hunits⟩ := F64.eq_iff.1 heq
  rw [F64.zero_false, F64.units_zero] at hunits
  omega

theorem psnrWith_of_zero (log : F64 → F64) {m : F64} (hnan : F64.isNaN m = false)
    (h : F64.units m = 0) : psnrWith log m = 0x4059000000000000#64 := by
  have heq : F64.eq m (F64.zero false) = true := by
    rw [F64.zero_false]
    exact F64.eq_iff.2 ⟨hnan, by decide, h.trans F64.units_zero.symm⟩
  rw [psnrWith, if_pos heq, zeroPsnr, F64.ofNat_hundred]

/-- Settles O36: a quotient of exact integers is rounded once and lies between 0 and the SSD, both zeros
compare equal to +0.0 and a positive number does not, and the constants' patterns are toF64's. -/
theorem msePsnrAndWpsnrFollowTheirFormulas : Obligations.MsePsnrAndWpsnrFollowTheirFormulas := by
  refine ⟨fun ssd cnt hssd hcnt hcnt' => ?msef, fun cnt => msef_zero,
    psnrWith_of_zero _ (by decide) (by decide), psnrWith_of_zero _ (by decide) (by decide),
    fun m hm => ?psnrf, fun py pu pv => ?wpsnrf⟩
  case msef =>
    have hfin := finite_msef hssd hcnt hcnt'
    have hnonneg := (units_msef_between hssd hcnt hcnt').1
    have hnear := nearestEven_msef hssd hcnt hcnt'
    rw [F64.natCast_unit] at hnear
    exact ⟨hfin, F64.le_iff.2 ⟨by decide, F64.isNaN_of_finite hfin, hnonneg⟩, hnear⟩
  case psnrf =>
    obtain ⟨-, -, hpos⟩ := F64.lt_iff.1 hm
    rw [← F64.ofNat_ten, ← F64.ofNat_65025]
    exact psnrWith_of_pos log10Fn hpos
  case wpsnrf =>
    rw [← F64.ofNat_six, ← F64.ofNat_eight]
    rfl

/-! ### PSNRF is monotone (41 R263) -/

/-- The exponent field 0x7FE and a fraction of ones: the last pattern below infinity. -/
theorem F64.mag_le_greatest {x : F64} (h : F64.finite x = true) :
    F64.mag x ≤ F64.mag 0x7FEFFFFFFFFFFFFF#64 := by
  rw [F64.finite_iff_magBits_lt, F64.infBits_eq] at h
  rw [F64.mag_le_mag_iff, show F64.magBits 0x7FEFFFFFFFFFFFFF#64 = 2047 * 2 ^ 52 - 1 by decide]
  omega

/-- 65025.0 /f m does not underflow: even divided by the greatest value the peak is a unit or more. -/
theorem greatest_mag_le_peak : F64.mag 0x7FEFFFFFFFFFFFFF#64 ≤ 65025 * F64.unit * F64.unit := by
  decide +kernel

/-- Nor does it overflow for an m of 2^-46 or more. -/
theorem peak_le_greatest_mul_least : 65025 * F64.unit * F64.unit ≤
    F64.mag 0x7FEFFFFFFFFFFFFF#64 * F64.mag 0x3D10000000000000#64 := by
  decide +kernel

theorem units_peak2 : F64.units peak2 = (65025 * F64.unit : Nat) := by
  rw [peak2, F64.units_ofNat (by decide)]; push_cast; rfl

theorem finite_peak2 : F64.finite peak2 = true := F64.finite_ofNat (by decide)

theorem units_least_mse : F64.units 0x3D10000000000000#64 = F64.mag 0x3D10000000000000#64 := by
  rw [← F64.mag_of_units_pos (by decide +kernel)]

section Quotient

variable {m : F64} (hm : F64.finite m = true)
  (hleast : F64.units 0x3D10000000000000#64 ≤ F64.units m)
include hleast

theorem units_mse_pos : 0 < F64.units m :=
  lt_of_lt_of_le (by decide +kernel) hleast

include hm

theorem roundsTo_peak_div :
    F64.RoundsTo (F64.div peak2 m) ((65025 * F64.unit * F64.unit : Nat) : Int) (F64.mag m) := by
  have := F64.roundsTo_div finite_peak2 hm (units_mse_pos hleast)
  rwa [units_peak2, ← Nat.cast_mul] at this

theorem positiveFinite_peak_div : F64.PositiveFinite (F64.div peak2 m) := by
  have hpos := units_mse_pos hleast
  have hmag := F64.mag_of_units_pos hpos
  have hround := roundsTo_peak_div hm hleast
  have hlow : F64.units 1#64 ≤ F64.units (F64.div peak2 m) := by
    refine hround.le_units (by omega) F64.finite_one_unit ?_
    rw [F64.units_one_unit, one_mul]
    exact_mod_cast (F64.mag_le_greatest hm).trans greatest_mag_le_peak
  have hhigh : F64.units (F64.div peak2 m) ≤ F64.units 0x7FEFFFFFFFFFFFFF#64 := by
    refine hround.units_le (by omega) (by decide) ?_
    rw [show F64.units 0x7FEFFFFFFFFFFFFF#64 = F64.mag 0x7FEFFFFFFFFFFFFF#64 from rfl]
    rw [units_least_mse, ← hmag] at hleast
    exact_mod_cast peak_le_greatest_mul_least.trans
      (Nat.mul_le_mul_left _ (by exact_mod_cast hleast))
  have hfin := F64.finite_of_units_between F64.finite_one_unit (by decide) hlow hhigh
  rw [F64.units_one_unit] at hlow
  refine ⟨hfin, ?_⟩
  rw [F64.zero_false]
  exact F64.lt_iff.2 ⟨by decide, F64.isNaN_of_finite hfin, by rw [F64.units_zero]; omega⟩

end Quotient

/-- A greater divisor gives no greater quotient. -/
theorem peak_div_antitone {m₁ m₂ : F64} (hm₁ : F64.finite m₁ = true) (hm₂ : F64.finite m₂ = true)
    (hleast : F64.units 0x3D10000000000000#64 ≤ F64.units m₁)
    (h : F64.units m₁ ≤ F64.units m₂) :
    F64.units (F64.div peak2 m₂) ≤ F64.units (F64.div peak2 m₁) := by
  have hmag₁ := F64.mag_of_units_pos (units_mse_pos hleast)
  have hmag₂ := F64.mag_of_units_pos (units_mse_pos (hleast.trans h))
  have hpos := units_mse_pos hleast
  refine (roundsTo_peak_div hm₂ (hleast.trans h)).mono (roundsTo_peak_div hm₁ hleast)
    (by omega) (by omega) (mul_le_mul_of_nonneg_left (by omega) (Int.natCast_nonneg _))

theorem finite_log10Fn (x : F64) : F64.finite (log10Fn x) = true := by
  rcases log10Fn_cases x with ⟨-, hprod⟩ | hzero
  · exact (F64.finite_of_finite_mul hprod).2
  · rw [hzero, F64.zero_false]; exact F64.finite_zero

theorem finite_psnrf (m : F64) : F64.finite (psnrf m) = true := by
  rcases psnrWith_cases log10Fn m with ⟨-, h⟩ | ⟨-, h⟩
  · rw [psnrf, h]; exact F64.finite_ofNat (by decide)
  · rw [psnrf, h]
    rcases log10Fn_cases (F64.div peak2 m) with ⟨-, hprod⟩ | hzero
    · exact hprod
    · rw [hzero, F64.ofNat_ten]; decide +kernel

/-- Settles O37: the quotient of the peak falls as the MSE grows and stays positive and finite, (L1) keeps
the order, and so does the product with 10.0. -/
theorem psnrIsNonIncreasingAndFinite : Obligations.PsnrIsNonIncreasingAndFinite := by
  refine ⟨fun log hlog hmono m₁ m₂ hm₂ hleast hle => ?monotone, finite_log10Fn, fun _ => rfl,
    finite_psnrf⟩
  case monotone =>
    obtain ⟨-, -, hleast⟩ := F64.le_iff.1 hleast
    obtain ⟨-, -, hle⟩ := F64.le_iff.1 hle
    have hm₁ := F64.finite_of_units_between (by decide) hm₂ hleast hle
    have hpos₁ := positiveFinite_peak_div hm₁ hleast
    have hpos₂ := positiveFinite_peak_div hm₂ (hleast.trans hle)
    have hquot := F64.le_iff.2 ⟨F64.isNaN_of_finite hpos₂.1, F64.isNaN_of_finite hpos₁.1,
      peak_div_antitone hm₁ hm₂ hleast hle⟩
    obtain ⟨-, -, hlogs⟩ := F64.le_iff.1 (hmono _ _ hpos₂ hpos₁ hquot)
    have hten : F64.finite (F64.ofNat 10) = true := F64.finite_ofNat (by decide)
    rw [psnrWith_of_pos log (units_mse_pos hleast),
      psnrWith_of_pos log (units_mse_pos (hleast.trans hle))]
    refine F64.le_iff.2 ⟨(F64.roundsTo_mul hten (hlog _ hpos₂)).isNaN_eq_false,
      (F64.roundsTo_mul hten (hlog _ hpos₁)).isNaN_eq_false,
      F64.mul_mono hten (F64.units_ofNat_pos (by decide) (by decide)).le (hlog _ hpos₂)
        (hlog _ hpos₁) hlogs⟩

end Sys2Proof
end

section
/-! PROOF. The quantizer (41 R265, R266): its scaled value is a chain of monotone roundings, 0 at the lower
bound and 255.0 at the upper one. -/

set_option autoImplicit false

namespace Sys2Proof

/-- Clamping takes the value between the bounds, whichever of the numbers are zeros or infinities. -/
theorem units_clampf {v lo hi : F64} (hv : F64.isNaN v = false) (hlt : F64.lt lo hi = true) :
    F64.units (clampf v lo hi) = max (F64.units lo) (min (F64.units v) (F64.units hi)) := by
  obtain ⟨hlo, hhi, hlohi⟩ := F64.lt_iff.1 hlt
  have hbelow : F64.lt v lo = true ↔ F64.units v < F64.units lo := by simp [F64.lt_iff, hv, hlo]
  have habove : F64.lt hi v = true ↔ F64.units hi < F64.units v := by simp [F64.lt_iff, hv, hhi]
  rw [clampf]
  split_ifs with h₁ h₂
  · have := hbelow.1 h₁; omega
  · have := habove.1 h₂; omega
  · rw [hbelow] at h₁; rw [habove] at h₂; omega

/-- num /f den of 41 R265, for a clamped value c. -/
def quantRatio (c lo hi : F64) : F64 := F64.div (F64.sub c lo) (F64.sub hi lo)

theorem quantScaled_eq (v lo hi : F64) :
    quantScaled v lo hi = F64.mul (quantRatio (clampf v lo hi) lo hi) (F64.ofNat 255) := rfl

theorem F64.finite_255 : F64.finite (F64.ofNat 255) = true := F64.finite_ofNat (by decide)

theorem F64.units_255 : F64.units (F64.ofNat 255) = 255 * F64.unit := F64.units_ofNat (by decide)

section Quantizer

variable {lo hi : F64} (hlt : F64.lt lo hi = true) (hfin : F64.finite (F64.sub hi lo) = true)
include hlt hfin

/-- hi -f lo is at least the least positive value. -/
theorem units_range_pos : 0 < F64.units (F64.sub hi lo) := by
  obtain ⟨hhi, hlo⟩ := F64.finite_of_finite_sub hfin
  obtain ⟨-, -, hlohi⟩ := F64.lt_iff.1 hlt
  have := (F64.roundsTo_sub hhi hlo).le_units one_pos F64.finite_one_unit
    (by rw [F64.units_one_unit]; omega)
  rw [F64.units_one_unit] at this
  omega

section Clamped

variable {c : F64} (hlow : F64.units lo ≤ F64.units c) (hhigh : F64.units c ≤ F64.units hi)
include hlow hhigh

omit hlt in
theorem finite_clamped : F64.finite c = true := by
  obtain ⟨hhi, hlo⟩ := F64.finite_of_finite_sub hfin
  exact F64.finite_of_units_between hlo hhi hlow hhigh

omit hlt in
/-- c -f lo lies between 0 and hi -f lo, and so it is finite. -/
theorem units_num_between :
    F64.finite (F64.sub c lo) = true ∧ 0 ≤ F64.units (F64.sub c lo) ∧
      F64.units (F64.sub c lo) ≤ F64.units (F64.sub hi lo) := by
  obtain ⟨hhi, hlo⟩ := F64.finite_of_finite_sub hfin
  have hc := finite_clamped hfin hlow hhigh
  have h0 := F64.sub_mono hlo hc hlo hlow
  have hle := F64.sub_mono hc hhi hlo hhigh
  rw [F64.units_sub_of_eq hlo hlo rfl] at h0
  exact ⟨F64.finite_of_units_between F64.finite_zero hfin (by rwa [F64.units_zero]) hle, h0, hle⟩

theorem quantRatio_between :
    F64.finite (quantRatio c lo hi) = true ∧ 0 ≤ F64.units (quantRatio c lo hi) ∧
      F64.units (quantRatio c lo hi) ≤ F64.unit := by
  obtain ⟨hnum, h0, hle⟩ := units_num_between hfin hlow hhigh
  obtain ⟨hr0, hr1⟩ := F64.units_div_between hfin (units_range_pos hlt hfin) hnum h0 hle
  refine ⟨F64.finite_of_units_between F64.finite_zero F64.finite_255 ?_ ?_, hr0, hr1⟩
  · rwa [F64.units_zero]
  · rw [F64.units_255]; exact hr1.trans (by omega)

end Clamped

theorem quantRatio_mono {c c' : F64} (hlow : F64.units lo ≤ F64.units c)
    (hle : F64.units c ≤ F64.units c') (hhigh : F64.units c' ≤ F64.units hi) :
    F64.units (quantRatio c lo hi) ≤ F64.units (quantRatio c' lo hi) := by
  obtain ⟨-, hlo⟩ := F64.finite_of_finite_sub hfin
  exact F64.div_mono hfin (units_range_pos hlt hfin)
    (units_num_between hfin hlow (hle.trans hhigh)).1
    (units_num_between hfin (hlow.trans hle) hhigh).1
    (F64.sub_mono (finite_clamped hfin hlow (hle.trans hhigh))
      (finite_clamped hfin (hlow.trans hle) hhigh) hlo hle)

section Scaled

variable {v : F64} (hv : F64.isNaN v = false)
include hv

omit hfin in
theorem clampf_between : F64.units lo ≤ F64.units (clampf v lo hi) ∧
    F64.units (clampf v lo hi) ≤ F64.units hi := by
  obtain ⟨-, -, hlohi⟩ := F64.lt_iff.1 hlt
  have := units_clampf hv hlt
  omega

theorem quantScaled_mono {v' : F64} (hv' : F64.isNaN v' = false) (hle : F64.units v ≤ F64.units v') :
    F64.units (quantScaled v lo hi) ≤ F64.units (quantScaled v' lo hi) := by
  obtain ⟨hlow, hhigh⟩ := clampf_between hlt hv
  obtain ⟨hlow', hhigh'⟩ := clampf_between hlt hv'
  have hclamp : F64.units (clampf v lo hi) ≤ F64.units (clampf v' lo hi) := by
    rw [units_clampf hv hlt, units_clampf hv' hlt]; omega
  have hratio := (quantRatio_between hlt hfin hlow hhigh).1
  have hratio' := (quantRatio_between hlt hfin hlow' hhigh').1
  rw [quantScaled_eq, quantScaled_eq, F64.mul_comm_of_finite hratio F64.finite_255,
    F64.mul_comm_of_finite hratio' F64.finite_255]
  exact F64.mul_mono F64.finite_255 (F64.units_ofNat_pos (by decide) (by decide)).le hratio hratio'
    (quantRatio_mono hlt hfin hlow hclamp hhigh')

theorem quantScaled_of_le_low (hle : F64.units v ≤ F64.units lo) :
    F64.units (quantScaled v lo hi) = 0 := by
  obtain ⟨-, hlo⟩ := F64.finite_of_finite_sub hfin
  obtain ⟨hlow, hhigh⟩ := clampf_between hlt hv
  have hclamp : F64.units (clampf v lo hi) = F64.units lo := by
    rw [units_clampf hv hlt]; omega
  have hnum := F64.units_sub_of_eq (finite_clamped hfin hlow hhigh) hlo hclamp
  exact F64.units_mul_of_zero (quantRatio_between hlt hfin hlow hhigh).1 F64.finite_255
    (F64.units_div_of_zero hfin (units_range_pos hlt hfin)
      (units_num_between hfin hlow hhigh).1 hnum)

theorem quantScaled_of_high_le (hle : F64.units hi ≤ F64.units v) :
    F64.units (quantScaled v lo hi) = 255 * F64.unit := by
  obtain ⟨hhi, hlo⟩ := F64.finite_of_finite_sub hfin
  obtain ⟨-, -, hlohi⟩ := F64.lt_iff.1 hlt
  obtain ⟨hlow, hhigh⟩ := clampf_between hlt hv
  have hclamp : F64.units (clampf v lo hi) = F64.units hi := by
    rw [units_clampf hv hlt]; omega
  have hc := finite_clamped hfin hlow hhigh
  have hnum : F64.units (F64.sub (clampf v lo hi) lo) = F64.units (F64.sub hi lo) :=
    le_antisymm (F64.sub_mono hc hhi hlo hclamp.le) (F64.sub_mono hhi hc hlo hclamp.ge)
  rw [← F64.units_255]
  exact F64.units_mul_of_one (quantRatio_between hlt hfin hlow hhigh).1 F64.finite_255
    (F64.units_div_of_eq hfin (units_range_pos hlt hfin)
      (units_num_between hfin hlow hhigh).1 hnum)

/-- The scaled value lies between those of the bounds themselves. -/
theorem quantScaled_between : 0 ≤ F64.units (quantScaled v lo hi) ∧
    F64.units (quantScaled v lo hi) ≤ 255 * F64.unit := by
  obtain ⟨hlo, hhi, -⟩ := F64.lt_iff.1 hlt
  rcases le_total (F64.units v) (F64.units lo) with h | h
  · rw [quantScaled_of_le_low hlt hfin hv h]; omega
  rcases le_total (F64.units hi) (F64.units v) with h' | h'
  · rw [quantScaled_of_high_le hlt hfin hv h']; omega
  have hlow := quantScaled_mono hlt hfin hlo hv h
  have hhigh := quantScaled_mono hlt hfin hv hhi h'
  rw [quantScaled_of_le_low hlt hfin hlo le_rfl] at hlow
  rw [quantScaled_of_high_le hlt hfin hhi le_rfl] at hhigh
  exact ⟨hlow, hhigh⟩

theorem finite_quantScaled : F64.finite (quantScaled v lo hi) = true := by
  obtain ⟨h0, h255⟩ := quantScaled_between hlt hfin hv
  refine F64.finite_of_units_between F64.finite_zero F64.finite_255 ?_ ?_
  · rwa [F64.units_zero]
  · rwa [F64.units_255]

/-- The floor is at most 255, so the byte holds it. -/
theorem toNat_quantf :
    ((quantf v lo hi).toNat : Int) = F64.units (quantScaled v lo hi) / F64.unit := by
  obtain ⟨h0, h255⟩ := quantScaled_between hlt hfin hv
  have hunit : (0 : Int) < F64.unit := by exact_mod_cast F64.unit_pos
  have hfloor0 := Int.ediv_nonneg h0 hunit.le
  have hfloor : F64.units (quantScaled v lo hi) / F64.unit ≤ 255 :=
    Int.ediv_le_of_le_mul hunit h255
  have hdef : quantDefined v lo hi = true := by simp [quantDefined, hlt, hfin, hv]
  rw [quantf, if_pos hdef, BitVec.toNat_ofNat, F64.floor]
  omega

end Scaled

end Quantizer

/-- Settles O38: subtraction, division and multiplication are monotone and exact at the bounds, so the
scaled value lies between 0 and 255.0, and the floor keeps the order. -/
theorem quantizerFloorsAndIsMonotone : Obligations.QuantizerFloorsAndIsMonotone := by
  intro lo hi v v' hlt hfin hv hv'
  have hunit : (0 : Int) < F64.unit := by exact_mod_cast F64.unit_pos
  have hbyte := toNat_quantf hlt hfin hv
  refine ⟨?floor, fun hle => ?monotone, fun hle => ?low, fun hle => ?high⟩
  case floor =>
    rw [← F64.ofNat_255, ← F64.natCast_unit, hbyte]
    exact ⟨finite_quantScaled hlt hfin hv, Int.ediv_mul_le _ hunit.ne',
      Int.lt_ediv_add_one_mul_self _ hunit⟩
  case monotone =>
    obtain ⟨-, -, hle⟩ := F64.le_iff.1 hle
    have := Int.ediv_le_ediv hunit (quantScaled_mono hlt hfin hv hv' hle)
    rw [← hbyte, ← toNat_quantf hlt hfin hv'] at this
    exact_mod_cast this
  case low =>
    obtain ⟨-, -, hle⟩ := F64.le_iff.1 hle
    rw [quantScaled_of_le_low hlt hfin hv hle, Int.zero_ediv] at hbyte
    exact BitVec.eq_of_toNat_eq (by exact_mod_cast hbyte)
  case high =>
    obtain ⟨-, -, hle⟩ := F64.le_iff.1 hle
    rw [quantScaled_of_high_le hlt hfin hv hle, Int.mul_ediv_cancel _ hunit.ne'] at hbyte
    exact BitVec.eq_of_toNat_eq (by exact_mod_cast hbyte)

end Sys2Proof
end

section
/-! PROOF. The percentile (41 R264): the sort orders by value, and the interpolation makes no NaN. -/

set_option autoImplicit false

namespace Sys2Proof

theorem length_sortAscending (vs : List F64) : (sortAscending vs).length = vs.length :=
  List.length_insertionSort _ vs

/-- On numbers `<=` is the order of the units, so the model's sort is the library's sort of the units. -/
theorem sortAscending_pairwise {vs : List F64} (hvs : ∀ v ∈ vs, F64.isNaN v = false) :
    (sortAscending vs).Pairwise (fun a b => F64.le a b = true) := by
  have hle : ∀ a ∈ vs, ∀ b ∈ vs, F64.le a b = true ↔ F64.units a ≤ F64.units b := by
    intro a ha b hb
    simp [F64.le_iff, hvs a ha, hvs b hb]
  have hsorted := (List.sortedLE_insertionSort (l := vs.map F64.units)).pairwise
  rw [← List.map_insertionSort (fun a b => F64.le a b = true) _ F64.units vs hle,
    List.pairwise_map] at hsorted
  have hmem := fun a => (List.mem_insertionSort (fun a b => F64.le a b = true) (l := vs) (x := a)).1
  exact hsorted.imp_of_mem fun ha hb => (hle _ (hmem _ ha) _ (hmem _ hb)).2

theorem nth_eq_getD (vs : List F64) (i : Nat) : nth vs i = vs.getD i 0#64 := by
  rw [nth, F64.zero_false]

theorem pctf_of_rank {p i : Nat} {vs : List F64} (h : p * (vs.length - 1) = 100 * i) :
    pctf p vs = nth (sortAscending vs) i := by
  rw [pctf, pctSorted, length_sortAscending, h, if_pos (by omega),
    Nat.mul_div_cancel_left _ (by decide)]

theorem pctf_between_ranks {p i g : Nat} {vs : List F64} (h : p * (vs.length - 1) = 100 * i + g)
    (hg0 : 0 < g) (hg : g < 100) :
    pctf p vs =
      F64.add (nth (sortAscending vs) i)
        (F64.mul (F64.sub (nth (sortAscending vs) (i + 1)) (nth (sortAscending vs) i))
          (F64.div (F64.ofNat g) (F64.ofNat 100))) := by
  rw [pctf, pctSorted, length_sortAscending, h, if_neg (by omega),
    show (100 * i + g) / 100 = i by omega, show (100 * i + g) % 100 = g by omega]

/-- A place past the list's end reads +0.0, which is finite as well. -/
theorem finite_nth_sortAscending {vs : List F64} (hvs : ∀ v ∈ vs, F64.finite v = true) (i : Nat) :
    F64.finite (nth (sortAscending vs) i) = true := by
  rw [nth_eq_getD]
  rcases lt_or_ge i (sortAscending vs).length with h | h
  · rw [List.getD_eq_getElem _ _ h]
    exact hvs _ ((List.mem_insertionSort _).1 (List.getElem_mem h))
  · rw [List.getD_eq_default _ _ h]
    exact F64.finite_zero

theorem F64.hundred_le_unit : 100 ≤ F64.unit := by decide +kernel

/-- The weight g/100 of the upper rank is more than the least positive value and at most 1.0. -/
theorem weight_positive {g : Nat} (hg0 : 0 < g) (hg : g < 100) :
    F64.finite (F64.div (F64.ofNat g) (F64.ofNat 100)) = true ∧
      0 < F64.units (F64.div (F64.ofNat g) (F64.ofNat 100)) := by
  have hfin := F64.finite_ofNat (n := g) (by omega)
  have hfin100 := F64.finite_ofNat (n := 100) (by decide)
  have hpos := F64.units_ofNat_pos (n := 100) (by decide) (by decide)
  have hmag := F64.mag_of_units_pos hpos
  have hround := F64.roundsTo_div hfin hfin100 hpos
  have hlow : F64.units 1#64 ≤ F64.units (F64.div (F64.ofNat g) (F64.ofNat 100)) := by
    refine hround.le_units (by omega) F64.finite_one_unit ?_
    rw [F64.units_one_unit, one_mul, F64.mag_ofNat (by decide), F64.units_ofNat (by omega)]
    exact_mod_cast Nat.mul_le_mul_right _
      (F64.hundred_le_unit.trans (Nat.le_mul_of_pos_left _ hg0))
  have hle : F64.units (F64.ofNat g) ≤ F64.units (F64.ofNat 100) := by
    rw [F64.units_ofNat (by omega), F64.units_ofNat (by decide)]
    exact mul_le_mul_of_nonneg_right (by omega) (Int.natCast_nonneg _)
  have hhigh := (F64.units_div_between hfin100 hpos hfin (F64.units_ofNat_pos hg0 (by omega)).le hle).2
  rw [← F64.units_one] at hhigh
  refine ⟨F64.finite_of_units_between F64.finite_one_unit (F64.finite_ofNat (by decide)) hlow hhigh,
    ?_⟩
  rw [F64.units_one_unit] at hlow
  omega

/-- Settles O39: the sort is the library's; the two cases of the rank are the model's; the difference of
two finite ranks may overflow but is a number, and its product with a positive weight is one too. -/
theorem percentileSortsAndInterpolates : Obligations.PercentileSortsAndInterpolates := by
  intro vs hvs
  refine ⟨List.perm_insertionSort _ vs, sortAscending_pairwise hvs, fun p i _ h => ?rank,
    fun p i g _ h hg0 hg => ?interpolated, fun hfin p => ?number⟩
  case rank => rw [pctf_of_rank h, nth_eq_getD]
  case interpolated =>
    rw [pctf_between_ranks h hg0 hg, F64.ofNat_hundred, nth_eq_getD, nth_eq_getD]
  case number =>
    have hnth := finite_nth_sortAscending hfin
    have hrank := (Nat.div_add_mod (p * (vs.length - 1)) 100).symm
    rcases Nat.eq_zero_or_pos (p * (vs.length - 1) % 100) with h0 | hpos
    · rw [h0, Nat.add_zero] at hrank
      rw [pctf_of_rank hrank]
      exact F64.isNaN_of_finite (hnth _)
    · have hlt := Nat.mod_lt (p * (vs.length - 1)) (show 0 < 100 by decide)
      rw [pctf_between_ranks hrank hpos hlt]
      obtain ⟨hweight, hweight0⟩ := weight_positive hpos hlt
      refine F64.isNaN_add_of_finite (hnth _) (F64.isNaN_mul_of_finite ?_ hweight hweight0.ne')
      exact (F64.roundsTo_sub (hnth _) (hnth _)).isNaN_eq_false

end Sys2Proof
end

section
/-! PROOF. CONFIG and SEQ_START (42 R300, R310): which of CONFIG's checks fails first, and what the two
commands leave. -/

set_option autoImplicit false

namespace Sys2Proof.Machine

/-- The model's error entry is the statements' one. -/
theorem raiseError_eq_failedWith (s : State) (c : ErrorCode) : raiseError s c = failedWith s c := rfl

/-! ### CONFIG's checks, in the terms of 42 R300 -/

theorem overCapacity_eq_true_iff (p : Params) (r : Bool) (w h : Nat) :
    overCapacity p r w h = true ↔
      p.frameBufBytes < w * h * 3 / 2 ∨ p.storeEntries < stagedBlocks w h ∨
      (r = true ∧ p.maskBufBytes < stagedBlocks w h) := by
  simp only [overCapacity, Bool.or_eq_true, Bool.and_eq_true, decide_eq_true_eq, or_assoc]

theorem staged_zero_iff (s : State) :
    (s.cfgWidth = 0 ∨ s.cfgHeight = 0) ↔ (s.cfgWidth.toNat = 0 ∨ s.cfgHeight.toNat = 0) := by
  simp only [← BitVec.toNat_inj, BitVec.ofNat_eq_ofNat, BitVec.toNat_zero]

theorem not_staged_zero {s : State} (hw : 0 < s.cfgWidth.toNat) (hh : 0 < s.cfgHeight.toNat) :
    ¬ (s.cfgWidth = 0 ∨ s.cfgHeight = 0) := by
  rw [staged_zero_iff]; omega

theorem configCheck_of_opened {s : State} (r : Bool) (h : s.seqState = .opened) :
    configCheck s r = some .seqState := by
  rw [configCheck, if_pos h]

theorem configCheck_of_zero {s : State} (r : Bool) (ho : s.seqState ≠ .opened)
    (h : s.cfgWidth.toNat = 0 ∨ s.cfgHeight.toNat = 0) : configCheck s r = some .cfgDimZero := by
  rw [configCheck, if_neg ho, if_pos ((staged_zero_iff s).2 h)]

section Nonzero

variable {s : State} (r : Bool) (ho : s.seqState ≠ .opened) (hw : 0 < s.cfgWidth.toNat)
  (hh : 0 < s.cfgHeight.toNat)

include ho hw hh

theorem configCheck_of_misaligned (h : s.cfgWidth.toNat % 16 ≠ 0 ∨ s.cfgHeight.toNat % 16 ≠ 0) :
    configCheck s r = some .cfgDimAlign := by
  rw [configCheck, if_neg ho, if_neg (not_staged_zero hw hh), if_pos h]

/-- On nonzero multiples of 16 only the capacities are left to check. -/
theorem configCheck_of_aligned (hw16 : s.cfgWidth.toNat % 16 = 0) (hh16 : s.cfgHeight.toNat % 16 = 0) :
    configCheck s r =
      if overCapacity s.params r s.cfgWidth.toNat s.cfgHeight.toNat then some .cfgDimRange else none := by
  rw [configCheck, if_neg ho, if_neg (not_staged_zero hw hh),
    if_neg (not_or.2 ⟨not_not.2 hw16, not_not.2 hh16⟩)]

end Nonzero

/-- Settles O15: the check that fails is the one the statement names, and an error of CONFIG leaves the
error commit alone. -/
theorem configErrorsInOrder : Obligations.ConfigErrorsInOrder := by
  intro s roi skip
  have fails : ∀ {c}, configCheck s roi = some c →
      exec (.config roi skip) s = .next (failedWith s c) := fun hc => by
    rw [exec_config_error hc, raiseError_eq_failedWith]
  refine ⟨fun ho => fails (configCheck_of_opened roi ho),
    fun ho => ⟨fun h0 => fails (configCheck_of_zero roi ho h0),
      fun hw hh => ⟨fun h16 => fails (configCheck_of_misaligned roi ho hw hh h16),
        fun hw16 hh16 hcap => fails ?_⟩⟩⟩
  rw [configCheck_of_aligned roi ho hw hh hw16 hh16, if_pos ((overCapacity_eq_true_iff ..).2 hcap)]

/-! ### CONFIG on legal dimensions -/

/-- A completion does not touch the configuration. -/
theorem configLegal_complete {s : State} (h : ConfigLegal s) : ConfigLegal (complete s) :=
  { h with }

/-- Settles O14: no check fails, and the configuration that CONFIG latches is a legal one, whose NBW and
NBH are not truncated. -/
theorem configLatchesLegalDimensions : Obligations.ConfigLatchesLegalDimensions := by
  intro s roi skip ho hw hh hw16 hh16 hframe hstore hmask
  have hfits : ¬ overCapacity s.params roi s.cfgWidth.toNat s.cfgHeight.toNat = true := by
    rw [overCapacity_eq_true_iff]
    rintro (hc | hc | ⟨hr, hc⟩)
    · exact hc.not_ge hframe
    · exact hc.not_ge hstore
    · exact hc.not_ge (hmask hr)
  have hcheck : configCheck s roi = none := by
    rw [configCheck_of_aligned roi ho hw hh hw16 hh16, if_neg hfits]
  have hlegal := configLegal_complete (configLegal_latchConfig hcheck skip)
  exact ⟨_, exec_config_ok hcheck, rfl, hlegal.columns, hlegal.rows, hlegal⟩

/-! ### SEQ_START -/

theorem exec_seqStart_ok {s : State} (h : s.cfgValid = true) :
    exec .seqStart s = .next (complete (openSequence s)) := by simp [exec, execSeqStart, h]

theorem exec_seqStart_error {s : State} (h : s.cfgValid = false) :
    exec .seqStart s = .next (raiseError s .notConfigured) := by simp [exec, execSeqStart, h]

/-- Settles O16: `openSequence` writes just these fields, and the error commit leaves the sequence alone. -/
theorem seqStartOpensAnEmptySequence : Obligations.SeqStartOpensAnEmptySequence :=
  ⟨decode_encode .seqStart, fun s => ⟨fun hv => exec_seqStart_ok hv,
    fun hv => by rw [exec_seqStart_error hv, raiseError_eq_failedWith]⟩⟩

end Sys2Proof.Machine
end

section
/-! PROOF. FRAME in the terms of spec/43: the model's window sums, partitions and checks are the sums over
bytes of the buffers and the masked blocks that the statements name. -/

set_option autoImplicit false

namespace Sys2Proof.Machine

/-! ### Squared differences (43 R353) -/

theorem cast_sqDiff (r t : Nat) : (sqDiff r t : Int) = ((r : Int) - t) ^ 2 := by
  rw [sqDiff, Int.toNat_of_nonneg (mul_self_nonneg _), sq]

theorem cast_windowSsd (s : State) {top stride n : Nat} {off : Nat → Nat → Nat}
    (h : ∀ r c, top + r * stride + c = off r c) :
    (windowSsd (refSample s) (tstSample s) top stride n : Int) =
      ∑ r ∈ Finset.range n, ∑ c ∈ Finset.range n, sqAt s (off r c) := by
  simp only [windowSsd, sumTo_eq_sum, Nat.cast_sum, cast_sqDiff, h]
  rfl

theorem cast_blockSsdY (s : State) (b : Nat) : (blockSsdY s b : Int) = lumaSsd s b :=
  cast_windowSsd s fun r c => by rw [lumaTop]; ring

theorem cast_blockSsdU (s : State) (b : Nat) : (blockSsdU s b : Int) = chromaUSsd s b :=
  cast_windowSsd s fun r c => by rw [uPlane, chromaTop]; ring

theorem cast_blockSsdV (s : State) (b : Nat) : (blockSsdV s b : Int) = chromaVSsd s b :=
  cast_windowSsd s fun r c => by rw [vPlane, uPlane, chromaTop]; ring

/-! ### The partitions (43 R355, R360) -/

/-- The model's sum over selected blocks is the sum over the filtered set of blocks. -/
theorem cast_sumBlocks (s : State) (sel : Nat → Bool) {ssd : Nat → Nat} {d : Nat → Int}
    (h : ∀ b, (ssd b : Int) = d b) :
    (sumBlocks s sel ssd : Int) = ∑ b ∈ blocks s with sel b = true, d b := by
  rw [sumBlocks, sumTo_eq_sum, Nat.cast_sum, Finset.sum_filter, blocks, frameBlockCount]
  refine Finset.sum_congr rfl fun b _ => ?_
  rw [Nat.cast_ite, h, Nat.cast_zero]

theorem filter_roiFlag {s : State} (h : s.roiEn = true) :
    (blocks s).filter (fun b => roiFlag s b = true) = maskedBlocks s := by
  refine Finset.filter_congr fun b _ => ?_
  simp [roiFlag, h, readByte, Space.start]

theorem roiBlockCount_eq_card {s : State} (h : s.roiEn = true) :
    roiBlockCount s = (maskedBlocks s).card := by
  rw [roiBlockCount, countTo, sumTo_eq_sum, ← Finset.card_filter, ← filter_roiFlag h]
  rfl

theorem roiBlockCount_of_disabled {s : State} (h : s.roiEn = false) : roiBlockCount s = 0 := by
  simp [roiBlockCount, countTo, sumTo_eq_sum, roiFlag, h]

theorem roiValid_eq (s : State) : roiValid s = (s.roiEn && decide (0 < (maskedBlocks s).card)) := by
  cases h : s.roiEn with
  | false => rw [roiValid, h]; rfl
  | true => rw [roiValid, h, roiBlockCount_eq_card h]

theorem nroiValid_eq (s : State) :
    nroiValid s = (s.roiEn && decide ((maskedBlocks s).card < s.nbw.toNat * s.nbh.toNat)) := by
  cases h : s.roiEn with
  | false => rw [nroiValid, h]; rfl
  | true => rw [nroiValid, h, roiBlockCount_eq_card h]; rfl

theorem roiValid_iff {s : State} :
    roiValid s = true ↔ s.roiEn = true ∧ 0 < (maskedBlocks s).card := by
  rw [roiValid_eq, Bool.and_eq_true, decide_eq_true_iff]

theorem nroiValid_iff {s : State} :
    nroiValid s = true ↔
      s.roiEn = true ∧ (maskedBlocks s).card < s.nbw.toNat * s.nbh.toNat := by
  rw [nroiValid_eq, Bool.and_eq_true, decide_eq_true_iff]

/-! ### The checks (43 R351, R355, R365) -/

section Checks

variable {s : State}

theorem frameCheck_of_not_opened (h : s.seqState ≠ .opened) : frameCheck s = some .seqState := by
  rw [frameCheck, if_pos h]

theorem frameCheck_of_full (ho : s.seqState = .opened)
    (h : s.params.storeEntries < s.storeCount.toNat + s.nbw.toNat * s.nbh.toNat) :
    frameCheck s = some .storeFull := by
  rw [frameCheck, if_neg (not_not.2 ho), frameBlockCount, if_pos h]

variable (ho : s.seqState = .opened)
  (hfits : s.storeCount.toNat + s.nbw.toNat * s.nbh.toNat ≤ s.params.storeEntries)

include ho hfits

/-- In an open sequence with room in the store only the partitions are left to check. -/
theorem frameCheck_of_fits :
    frameCheck s =
      if s.roiEn = true ∧ s.epSkip = false ∧ (maskedBlocks s).card = 0 then some .emptyPartitionRoi
      else if s.roiEn = true ∧ s.epSkip = false ∧ (maskedBlocks s).card = s.nbw.toNat * s.nbh.toNat then
        some .emptyPartitionNroi
      else none := by
  rw [frameCheck, if_neg (not_not.2 ho), frameBlockCount, if_neg hfits.not_gt]
  cases h : s.roiEn with
  | false => simp
  | true => rw [roiBlockCount_eq_card h]

theorem frameCheck_of_roi_empty (hroi : s.roiEn = true) (hskip : s.epSkip = false)
    (h : (maskedBlocks s).card = 0) : frameCheck s = some .emptyPartitionRoi := by
  rw [frameCheck_of_fits ho hfits, if_pos ⟨hroi, hskip, h⟩]

theorem frameCheck_of_nroi_empty (hroi : s.roiEn = true) (hskip : s.epSkip = false)
    (h0 : (maskedBlocks s).card ≠ 0) (h : (maskedBlocks s).card = s.nbw.toNat * s.nbh.toNat) :
    frameCheck s = some .emptyPartitionNroi := by
  rw [frameCheck_of_fits ho hfits, if_neg fun ⟨_, _, hnone⟩ => h0 hnone, if_pos ⟨hroi, hskip, h⟩]

end Checks

theorem frameCheck_of_ready {s : State} (h : FrameReady s) : frameCheck s = none := by
  obtain ⟨ho, hfits, hparts⟩ := h
  rw [frameCheck_of_fits ho hfits, if_neg fun ⟨hroi, hskip, h0⟩ => (hparts hroi hskip).1 h0,
    if_neg fun ⟨hroi, hskip, hall⟩ => (hparts hroi hskip).2 hall]

theorem exec_frame_of_ready {s : State} (h : FrameReady s) :
    exec .frame s = .next (complete (commitFrame s)) :=
  exec_frame_ok (frameCheck_of_ready h)

theorem exec_frame_fatal {s : State} {c : ErrorCode} (h : frameCheck s = some c)
    (hc : fatalForSequence c = true) :
    exec .frame s = .next { failedWith s c with seqState := .aborted } := by
  rw [exec_frame_error h, abortIfFatal, if_pos hc]
  rfl

/-- Settles O17: the check that fails is the one the statement names; SEQ_STATE's error leaves the sequence
alone, and the three others abort it. -/
theorem frameErrorsInOrder : Obligations.FrameErrorsInOrder := by
  intro s
  refine ⟨fun hopen => ?closed, fun ho =>
    ⟨fun hfull => exec_frame_fatal (frameCheck_of_full ho hfull) rfl,
    fun hfits hroi hskip =>
      ⟨fun h => exec_frame_fatal (frameCheck_of_roi_empty ho hfits hroi hskip h) rfl,
        fun h0 h => exec_frame_fatal (frameCheck_of_nroi_empty ho hfits hroi hskip h0 h) rfl⟩⟩⟩
  case closed =>
    rw [exec_frame_error (frameCheck_of_not_opened hopen)]
    rfl

end Sys2Proof.Machine
end

section
/-! PROOF. FRAME's totals (43 R357 to R359): they fit their 64-bit entries, the partitions add up to the
whole, and the blocks' windows tile the planes (43 R352). -/

set_option autoImplicit false

namespace Sys2Proof.Machine

/-! ### The totals fit 64 bits (43 R359) -/

/-- The totals over the blocks that `sel` selects; `allTotals` and `roiTotals` are its two uses. -/
def partitionTotals (s : State) (sel : Nat → Bool) : PlaneTotals where
  y := sumBlocks s sel (blockSsdY s)
  u := sumBlocks s sel (blockSsdU s)
  v := sumBlocks s sel (blockSsdV s)

theorem allTotals_eq (s : State) : allTotals s = partitionTotals s (fun _ => true) := rfl

theorem roiTotals_eq (s : State) : roiTotals s = partitionTotals s (roiFlag s) := rfl

theorem frameBlockCount_lt (s : State) : frameBlockCount s < 2 ^ 32 :=
  Nat.mul_lt_mul'' (c := 2 ^ 16) (d := 2 ^ 16) s.nbw.isLt s.nbh.isLt

theorem sumBlocks_le (s : State) (sel : Nat → Bool) {ssd : Nat → Nat} {c : Nat} (h : ∀ b, ssd b ≤ c) :
    sumBlocks s sel ssd ≤ 2 ^ 32 * c := by
  refine (sumTo_le_mul fun b _ => ?_).trans (Nat.mul_le_mul_right c (frameBlockCount_lt s).le)
  split
  · exact h b
  · exact Nat.zero_le c

theorem sumBlocks_le_all (s : State) (sel : Nat → Bool) (ssd : Nat → Nat) :
    sumBlocks s sel ssd ≤ sumBlocks s (fun _ => true) ssd :=
  sumTo_mono fun b _ => by split <;> simp

theorem windowSsd_samples_le (s : State) (top stride n : Nat) :
    windowSsd (refSample s) (tstSample s) top stride n ≤ n * (n * (255 * 255)) :=
  windowSsd_le (fun _ => (readByte s .ref _).isLt) (fun _ => (readByte s .tst _).isLt) _ _ _

theorem t_partitionTotals_lt (s : State) (sel : Nat → Bool) : (partitionTotals s sel).t < 2 ^ 64 := by
  have hy := sumBlocks_le s sel (ssd := blockSsdY s) fun b => windowSsd_samples_le s _ _ 16
  have hu := sumBlocks_le s sel (ssd := blockSsdU s) fun b => windowSsd_samples_le s _ _ 8
  have hv := sumBlocks_le s sel (ssd := blockSsdV s) fun b => windowSsd_samples_le s _ _ 8
  simp only [PlaneTotals.t, partitionTotals]
  omega

theorem t_nroiTotals_lt (s : State) : (nroiTotals s).t < 2 ^ 64 := by
  have h := t_partitionTotals_lt s fun _ => true
  rw [← allTotals_eq] at h
  simp only [PlaneTotals.t, nroiTotals] at *
  omega

/-- Totals whose sum fits 64 bits are stored as they are, the pseudo-plane's being the sum. -/
theorem toNat_ssdStats {p : PlaneTotals} (h : p.t < 2 ^ 64) :
    (ssdStats p).ssdY.toNat = p.y ∧ (ssdStats p).ssdU.toNat = p.u ∧ (ssdStats p).ssdV.toNat = p.v ∧
      (ssdStats p).ssdT.toNat = p.y + p.u + p.v := by
  simp only [PlaneTotals.t] at h
  simp only [ssdStats, PlaneTotals.t, BitVec.toNat_ofNat]
  omega

theorem ssdResults_of_enabled {s : State} (h : s.roiEn = true) :
    (ssdResults s).roi = ssdStats (roiTotals s) ∧ (ssdResults s).nroi = ssdStats (nroiTotals s) := by
  simp [ssdResults, h]

theorem ssdResults_of_disabled {s : State} (h : s.roiEn = false) :
    (ssdResults s).roi = {} ∧ (ssdResults s).nroi = {} := by
  simp [ssdResults, h]

/-- The SSD scope's entries of a partition are the exact sums over its blocks (43 R357, R358). -/
theorem sums_of_ssdStats {s : State} {sel : Nat → Bool} {bs : Finset Nat} {d : SsdStats}
    (hbs : (blocks s).filter (fun b => sel b = true) = bs)
    (hd : d = ssdStats (partitionTotals s sel)) :
    (d.ssdY.toNat : Int) = ∑ b ∈ bs, lumaSsd s b ∧ (d.ssdU.toNat : Int) = ∑ b ∈ bs, chromaUSsd s b ∧
      (d.ssdV.toNat : Int) = ∑ b ∈ bs, chromaVSsd s b ∧
      d.ssdT.toNat = d.ssdY.toNat + d.ssdU.toNat + d.ssdV.toNat := by
  obtain ⟨hy, hu, hv, ht⟩ := toNat_ssdStats (t_partitionTotals_lt s sel)
  rw [hd, hy, hu, hv, ht, ← hbs]
  exact ⟨cast_sumBlocks s sel (cast_blockSsdY s), cast_sumBlocks s sel (cast_blockSsdU s),
    cast_sumBlocks s sel (cast_blockSsdV s), rfl⟩

/-- Every block is in the ALL partition. -/
theorem filter_all (s : State) : (blocks s).filter (fun _ => true = true) = blocks s :=
  Finset.filter_true_of_mem fun _ _ => rfl

theorem sums_of_ssdResults_all (s : State) :
    ((ssdResults s).all.ssdY.toNat : Int) = ∑ b ∈ blocks s, lumaSsd s b ∧
      ((ssdResults s).all.ssdU.toNat : Int) = ∑ b ∈ blocks s, chromaUSsd s b ∧
      ((ssdResults s).all.ssdV.toNat : Int) = ∑ b ∈ blocks s, chromaVSsd s b ∧
      (ssdResults s).all.ssdT.toNat =
        (ssdResults s).all.ssdY.toNat + (ssdResults s).all.ssdU.toNat + (ssdResults s).all.ssdV.toNat :=
  sums_of_ssdStats (filter_all s) rfl

/-- Settles O19: the model's totals are the sums over the selected blocks and do not wrap. -/
theorem frameSumsTheSquaredDifferences : Obligations.FrameSumsTheSquaredDifferences := by
  intro s hready
  obtain ⟨hy, hu, hv, ht⟩ := sums_of_ssdResults_all s
  exact ⟨_, exec_frame_of_ready hready, hy, hu, hv, ht,
    fun hroi => sums_of_ssdStats (filter_roiFlag hroi) (ssdResults_of_enabled hroi).1,
    fun hroi => ssdResults_of_disabled hroi⟩

/-- Settles O20: the ROI totals are part of the whole, so the truncated differences of N_X = A_X - R_X are
exact, and no entry wraps. -/
theorem framePartitionsAddUp : Obligations.FramePartitionsAddUp := by
  intro s hready hroi
  refine ⟨_, exec_frame_of_ready hready, ?_⟩
  obtain ⟨hresRoi, hresNroi⟩ := ssdResults_of_enabled hroi
  obtain ⟨hay, hau, hav, hat⟩ := toNat_ssdStats (t_partitionTotals_lt s fun _ => true)
  obtain ⟨hry, hru, hrv, hrt⟩ := toNat_ssdStats (t_partitionTotals_lt s (roiFlag s))
  obtain ⟨hny, hnu, hnv, hnt⟩ := toNat_ssdStats (t_nroiTotals_lt s)
  rw [← allTotals_eq] at hay hau hav hat
  rw [← roiTotals_eq] at hry hru hrv hrt
  have hy : (roiTotals s).y + (nroiTotals s).y = (allTotals s).y :=
    Nat.add_sub_cancel' (sumBlocks_le_all s _ _)
  have hu : (roiTotals s).u + (nroiTotals s).u = (allTotals s).u :=
    Nat.add_sub_cancel' (sumBlocks_le_all s _ _)
  have hv : (roiTotals s).v + (nroiTotals s).v = (allTotals s).v :=
    Nat.add_sub_cancel' (sumBlocks_le_all s _ _)
  simp only [complete_resSsd, commitFrame_resSsd, hresRoi, hresNroi]
  rw [show (ssdResults s).all = ssdStats (allTotals s) from rfl]
  omega

/-! ### The blocks tile the planes (43 R352) -/

theorem sum_range_mul {M : Type} [AddCommMonoid M] (f : Nat → M) (m n : Nat) :
    ∑ o ∈ Finset.range (m * n), f o =
      ∑ i ∈ Finset.range m, ∑ j ∈ Finset.range n, f (i * n + j) := by
  induction m with
  | zero => simp
  | succ m ih => rw [Nat.succ_mul, Finset.sum_range_add, ih, Finset.sum_range_succ]

/-- In one row of windows, the column of windows and the row of samples are swapped. -/
theorem sum_window_row (f : Nat → Int) {cols k w : Nat} (hw : w = cols * k) (row : Nat) :
    ∑ j ∈ Finset.range cols, ∑ r ∈ Finset.range k, ∑ c ∈ Finset.range k,
        f ((row * k + r) * w + j * k + c) =
      ∑ r ∈ Finset.range k, ∑ x ∈ Finset.range w, f ((row * k + r) * w + x) := by
  rw [Finset.sum_comm]
  refine Finset.sum_congr rfl fun r _ => ?_
  rw [hw, sum_range_mul]
  simp only [Nat.add_assoc]

/-- A plane of rows*k by cols*k samples is cut into rows*cols windows of k by k samples. -/
theorem sum_windows_eq_sum_plane (f : Nat → Int) {cols rows k w h : Nat} (hw : w = cols * k)
    (hh : h = rows * k) :
    ∑ b ∈ Finset.range (cols * rows), ∑ r ∈ Finset.range k, ∑ c ∈ Finset.range k,
        f ((b / cols * k + r) * w + b % cols * k + c) =
      ∑ o ∈ Finset.range (w * h), f o := by
  have hplane : ∑ o ∈ Finset.range (w * h), f o = ∑ i ∈ Finset.range rows, ∑ r ∈ Finset.range k,
      ∑ x ∈ Finset.range w, f ((i * k + r) * w + x) := by
    rw [Nat.mul_comm w, sum_range_mul, hh, sum_range_mul]
  rw [hplane, Nat.mul_comm cols, sum_range_mul]
  refine Finset.sum_congr rfl fun i _ => (Finset.sum_congr rfl fun j hj => ?_).trans (sum_window_row f hw i)
  have hlt := Finset.mem_range.1 hj
  have hrow : (i * cols + j) / cols = i := by
    rw [Nat.mul_comm, Nat.mul_add_div (by omega), Nat.div_eq_of_lt hlt, Nat.add_zero]
  have hcol : (i * cols + j) % cols = j := by
    rw [Nat.mul_comm, Nat.mul_add_mod, Nat.mod_eq_of_lt hlt]
  rw [hrow, hcol]

/-- A legal configuration's planes are whole numbers of blocks wide and high. -/
theorem planes_of_configLegal {s : State} (h : ConfigLegal s) :
    (s.actW.toNat = s.nbw.toNat * 16 ∧ s.actH.toNat = s.nbh.toNat * 16) ∧
      (s.actW.toNat / 2 = s.nbw.toNat * 8 ∧ s.actH.toNat / 2 = s.nbh.toNat * 8) := by
  have := h.width_aligned
  have := h.height_aligned
  have := h.columns
  have := h.rows
  omega

/-- Settles O21: the totals over the blocks are those of O19, and the windows cut each plane. -/
theorem frameBlocksTileThePlanes : Obligations.FrameBlocksTileThePlanes := by
  intro s hready hlegal
  obtain ⟨⟨hw, hh⟩, hw2, hh2⟩ := planes_of_configLegal hlegal
  obtain ⟨hy, hu, hv, -⟩ := sums_of_ssdResults_all s
  refine ⟨_, exec_frame_of_ready hready, hy.trans ?luma, hu.trans ?chromaU, hv.trans ?chromaV⟩
  case luma => exact sum_windows_eq_sum_plane (sqAt s) hw hh
  case chromaU =>
    rw [← sum_windows_eq_sum_plane _ hw2 hh2]
    simp only [chromaUSsd, blocks, Nat.add_assoc]
  case chromaV =>
    rw [← sum_windows_eq_sum_plane _ hw2 hh2]
    simp only [chromaVSsd, blocks, Nat.add_assoc]

end Sys2Proof.Machine
end

section
/-! PROOF. What FRAME writes (43 R354, R360 to R364): the statistics, the sequence sums, the counters and the
entries appended to SSD_STORE. -/

set_option autoImplicit false

namespace Sys2Proof.Machine

/-! ### Statistics (43 R361) -/

/-- The statistics of totals that fit 64 bits are those of the SSDs that are stored. -/
theorem statsOf_frameStats {p : PlaneTotals} (h : p.t < 2 ^ 64) (n : Nat) :
    StatsOf (ssdStats p) n (frameStats p n) := by
  obtain ⟨hy, hu, hv, ht⟩ := toNat_ssdStats h
  exact {
    mseY := by rw [hy]; rfl
    mseU := by rw [hu]; rfl
    mseV := by rw [hv]; rfl
    mseT := by rw [ht]; rfl
    psnrY := rfl
    psnrU := rfl
    psnrV := rfl
    psnrT := rfl
    wpsnr := rfl }

/-- A partition that is valid exactly when `P` holds has the statistics of its stored SSDs, or +0.0 each. -/
theorem statsOf_partitionStats {v : Bool} {P : Prop} [Decidable P] {p : PlaneTotals} {d : SsdStats}
    {n m : Nat} (hv : v = true ↔ P) (hp : p.t < 2 ^ 64) (hd : P → d = ssdStats p) (hn : P → n = m) :
    if P then StatsOf d m (partitionStats v p n) else partitionStats v p n = {} := by
  split_ifs with h
  · rw [hv.2 h, hd h, hn h]
    exact statsOf_frameStats hp m
  · rw [Bool.eq_false_of_not_eq_true (mt hv.1 h)]
    rfl

/-- Settles O22: the validity of 43 R360 decides, and the totals do not wrap. -/
theorem frameStatisticsFollowTheSsds : Obligations.FrameStatisticsFollowTheSsds := by
  intro s hready
  refine ⟨_, exec_frame_of_ready hready, statsOf_frameStats (t_partitionTotals_lt s _) _,
    statsOf_partitionStats roiValid_iff (t_partitionTotals_lt s _) ?_ ?_,
    statsOf_partitionStats nroiValid_iff (t_nroiTotals_lt s) ?_ ?_⟩
  · exact fun ⟨hroi, _⟩ => (ssdResults_of_enabled hroi).1
  · exact fun ⟨hroi, _⟩ => roiBlockCount_eq_card hroi
  · exact fun ⟨hroi, _⟩ => (ssdResults_of_enabled hroi).2
  · exact fun ⟨hroi, _⟩ => congrArg (frameBlockCount s - ·) (roiBlockCount_eq_card hroi)

/-! ### Sequence sums (43 R362) -/

theorem stat_addStats (sum new : FrameStats) {k : Nat} (hk : k ≤ 8) :
    (addStats sum new).stat k = F64.add (sum.stat k) (new.stat k) := by
  interval_cases k <;> rfl

theorem stat_partitionSums {v : Bool} (hv : v = true) (sum new : FrameStats) {k : Nat} (hk : k ≤ 8) :
    (partitionSums v sum new).stat k = F64.add (sum.stat k) (new.stat k) := by
  rw [partitionSums, if_pos hv, stat_addStats sum new hk]

theorem partitionSums_of_invalid {v : Bool} (hv : v = false) (sum new : FrameStats) :
    partitionSums v sum new = sum := by
  rw [partitionSums, if_neg (Bool.eq_false_iff.1 hv)]

/-- Settles O23: the VALID bits that FRAME writes are the ones its sums go by. -/
theorem frameAddsToTheSums : Obligations.FrameAddsToTheSums := by
  intro s hready
  exact ⟨_, exec_frame_of_ready hready, fun _ hk => stat_addStats _ _ hk,
    fun hroi _ hk => stat_partitionSums hroi _ _ hk, fun hnroi _ hk => stat_partitionSums hnroi _ _ hk,
    fun hroi => partitionSums_of_invalid hroi _ _, fun hnroi => partitionSums_of_invalid hnroi _ _⟩

/-! ### SSD_STORE (43 R354) -/

theorem memRead_complete (s : State) (sp : Space) (off n : Nat) :
    memRead (complete s) sp off n = memRead s sp off n :=
  memRead_congr s fun _ _ => rfl

theorem byteAt_commitFrame_of_outside (s : State) {a : Nat}
    (ha : a < 0x04000000 + 4 * s.storeCount.toNat ∨
      0x04000000 + 4 * (s.storeCount.toNat + s.nbw.toNat * s.nbh.toNat) ≤ a) :
    byteAt (commitFrame s) a = byteAt s a := by
  refine byteAt_congr (lookup_writeEntries_outside _ _ _ _ ?_) rfl
  rw [length_lumaSsds, frameBlockCount]
  simp only [Space.start]
  omega

/-- Settles O24: each appended entry reads back as its block's SSD, which fits 4 bytes. -/
theorem frameAppendsLumaSsds : Obligations.FrameAppendsLumaSsds := by
  intro s hready
  refine ⟨_, exec_frame_of_ready hready, fun b hb => ?_, fun a => byteAt_commitFrame_of_outside s⟩
  rw [memRead_complete, memRead_commitFrame_appended s hb, cast_blockSsdY]

/-! ### Counters and the frame (43 R363, R364) -/

theorem countIf_eq_ite {v : Bool} {p : Prop} [Decidable p] (h : v = true ↔ p) (n : Word) :
    countIf v n = if p then n + 1#32 else n :=
  if_congr h rfl rfl

theorem ofNat_roiBlockCount (s : State) :
    BitVec.ofNat 32 (roiBlockCount s) =
      if s.roiEn = true then BitVec.ofNat 32 (maskedBlocks s).card else 0#32 := by
  split_ifs with h
  · rw [roiBlockCount_eq_card h]
  · rw [roiBlockCount_of_disabled (Bool.eq_false_of_not_eq_true h)]

/-- Settles O18: the counters and the VALID bits in the statement's terms are those FRAME commits, and its
entries are the only bytes it writes. -/
theorem frameCountsAndLeavesTheRest : Obligations.FrameCountsAndLeavesTheRest := by
  intro s hready
  refine ⟨_, exec_frame_of_ready hready, ?_, fun a => byteAt_commitFrame_of_outside s⟩
  rw [← countIf_eq_ite roiValid_iff, ← countIf_eq_ite nroiValid_iff, ← ofNat_roiBlockCount,
    ← roiValid_eq, ← nroiValid_eq]
  rfl

end Sys2Proof.Machine
end

section
/-! PROOF. What FRAME reads (43 R350, R356): the blocks' windows lie in the frame's bytes, so the outcome
depends on these bytes and the mask's alone, and identical frames score 100.0. -/

set_option autoImplicit false

namespace Sys2Proof.Machine

/-! ### The windows lie in the frame (10 R61, 43 R352) -/

theorem mul_add_lt_mul {i m r k : Nat} (hi : i < m) (hr : r < k) : i * k + r < m * k :=
  calc i * k + r < (i + 1) * k := by rw [Nat.succ_mul]; omega
    _ ≤ m * k := Nat.mul_le_mul_right k hi

/-- Sample (r, c) of window b, the windows of k by k samples numbered along the rows of a plane. -/
theorem window_offset_lt {cols rows k w h b r c : Nat} (hw : w = cols * k) (hh : h = rows * k)
    (hb : b < cols * rows) (hr : r < k) (hc : c < k) :
    b / cols * k * w + b % cols * k + r * w + c < w * h := by
  have hrow : b / cols < rows := Nat.div_lt_of_lt_mul hb
  have hcol : b % cols < cols := Nat.mod_lt b (Nat.pos_of_mul_pos_right (Nat.zero_lt_of_lt hb))
  have hx : b % cols * k + c < w := hw ▸ mul_add_lt_mul hcol hc
  have hy : b / cols * k + r < h := hh ▸ mul_add_lt_mul hrow hr
  calc b / cols * k * w + b % cols * k + r * w + c
      = (b / cols * k + r) * w + (b % cols * k + c) := by ring
    _ < h * w := mul_add_lt_mul hy hx
    _ = w * h := Nat.mul_comm h w

theorem windowSsd_congr {ref tst ref' tst' : Nat → Nat} {top stride n : Nat}
    (h : ∀ r c, r < n → c < n → ref (top + r * stride + c) = ref' (top + r * stride + c) ∧
      tst (top + r * stride + c) = tst' (top + r * stride + c)) :
    windowSsd ref tst top stride n = windowSsd ref' tst' top stride n :=
  sumTo_congr fun r hr => sumTo_congr fun c hc => by
    obtain ⟨href, htst⟩ := h r c hr hc
    rw [href, htst]

section Frame

variable {s : State} (hlegal : ConfigLegal s)
include hlegal

/-- The V plane ends where the frame does (10 R61). -/
theorem frame_bytes :
    s.actW.toNat * s.actH.toNat * 3 / 2 = vPlane s + s.actW.toNat / 2 * (s.actH.toNat / 2) := by
  obtain ⟨⟨hw, hh⟩, hw2, hh2⟩ := planes_of_configLegal hlegal
  have hfour : s.actW.toNat * s.actH.toNat = 4 * (s.actW.toNat / 2 * (s.actH.toNat / 2)) := by
    rw [hw2, hh2, hw, hh]
    ring
  rw [vPlane, uPlane]
  omega

/-- Readers that agree on the frame's bytes give every block the same SSDs. -/
theorem windowSsd_congr_of_frame {b : Nat} (hb : b < frameBlockCount s) {ref tst ref' tst' : Nat → Nat}
    (h : ∀ o, o < s.actW.toNat * s.actH.toNat * 3 / 2 → ref o = ref' o ∧ tst o = tst' o) :
    windowSsd ref tst (lumaTop s b) s.actW.toNat 16 = windowSsd ref' tst' (lumaTop s b) s.actW.toNat 16 ∧
    windowSsd ref tst (uPlane s + chromaTop s b) (s.actW.toNat / 2) 8 =
      windowSsd ref' tst' (uPlane s + chromaTop s b) (s.actW.toNat / 2) 8 ∧
    windowSsd ref tst (vPlane s + chromaTop s b) (s.actW.toNat / 2) 8 =
      windowSsd ref' tst' (vPlane s + chromaTop s b) (s.actW.toNat / 2) 8 := by
  obtain ⟨⟨hw, hh⟩, hw2, hh2⟩ := planes_of_configLegal hlegal
  rw [frame_bytes hlegal, vPlane, uPlane] at h
  refine ⟨windowSsd_congr fun r c hr hc => h _ ?luma, windowSsd_congr fun r c hr hc => h _ ?chromaU,
    windowSsd_congr fun r c hr hc => h _ ?chromaV⟩
  case luma =>
    have := window_offset_lt hw hh hb hr hc
    rw [lumaTop]
    omega
  case chromaU =>
    have := window_offset_lt hw2 hh2 hb hr hc
    rw [uPlane, chromaTop]
    omega
  case chromaV =>
    have := window_offset_lt hw2 hh2 hb hr hc
    rw [vPlane, uPlane, chromaTop]
    omega

end Frame

theorem sumBlocks_congr {s t : State} {sel sel' : Nat → Bool} {ssd ssd' : Nat → Nat}
    (hn : frameBlockCount t = frameBlockCount s)
    (h : ∀ b, b < frameBlockCount s → sel' b = sel b ∧ ssd' b = ssd b) :
    sumBlocks t sel' ssd' = sumBlocks s sel ssd := by
  rw [sumBlocks, sumBlocks, hn]
  exact sumTo_congr fun b hb => by
    obtain ⟨hsel, hssd⟩ := h b hb
    rw [hsel, hssd]

/-! ### Noninterference (43 R350, R356) -/

/-- What FRAME takes from the buffers of two states: the blocks' SSDs and ROI flags. -/
structure SameFrame (s t : State) : Prop where
  ssdY : ∀ b, b < frameBlockCount s → blockSsdY t b = blockSsdY s b
  ssdU : ∀ b, b < frameBlockCount s → blockSsdU t b = blockSsdU s b
  ssdV : ∀ b, b < frameBlockCount s → blockSsdV t b = blockSsdV s b
  roi : ∀ b, b < frameBlockCount s → roiFlag t b = roiFlag s b

theorem sameFrame_of_bytes {s : State} {m : Memory} (hlegal : ConfigLegal s)
    (hframe : ∀ o, o < s.actW.toNat * s.actH.toNat * 3 / 2 →
      byteAt { s with mem := m } (0x01000000 + o) = byteAt s (0x01000000 + o) ∧
      byteAt { s with mem := m } (0x02000000 + o) = byteAt s (0x02000000 + o))
    (hmask : s.roiEn = true → ∀ b, b < s.nbw.toNat * s.nbh.toNat →
      byteAt { s with mem := m } (0x03000000 + b) = byteAt s (0x03000000 + b)) :
    SameFrame s { s with mem := m } := by
  have hsamples : ∀ o, o < s.actW.toNat * s.actH.toNat * 3 / 2 →
      refSample { s with mem := m } o = refSample s o ∧ tstSample { s with mem := m } o = tstSample s o :=
    fun o ho => (hframe o ho).imp (congrArg BitVec.toNat) (congrArg BitVec.toNat)
  have hssd := fun b (hb : b < frameBlockCount s) => windowSsd_congr_of_frame hlegal hb hsamples
  simp only [forall_and] at hssd
  obtain ⟨hy, hu, hv⟩ := hssd
  refine ⟨hy, hu, hv, fun b hb => ?roi⟩
  case roi =>
    by_cases hroi : s.roiEn = true
    · exact congrArg (fun x => s.roiEn && x != 0#8) (hmask hroi b hb)
    · simp [roiFlag, hroi]

section SameFrame

variable {s : State} {m : Memory} (h : SameFrame s { s with mem := m })
include h

theorem SameFrame.allTotals_eq : allTotals { s with mem := m } = allTotals s := by
  rw [PlaneTotals.mk.injEq]
  exact ⟨sumBlocks_congr rfl fun b hb => ⟨rfl, h.ssdY b hb⟩,
    sumBlocks_congr rfl fun b hb => ⟨rfl, h.ssdU b hb⟩,
    sumBlocks_congr rfl fun b hb => ⟨rfl, h.ssdV b hb⟩⟩

theorem SameFrame.roiTotals_eq : roiTotals { s with mem := m } = roiTotals s := by
  rw [PlaneTotals.mk.injEq]
  exact ⟨sumBlocks_congr rfl fun b hb => ⟨h.roi b hb, h.ssdY b hb⟩,
    sumBlocks_congr rfl fun b hb => ⟨h.roi b hb, h.ssdU b hb⟩,
    sumBlocks_congr rfl fun b hb => ⟨h.roi b hb, h.ssdV b hb⟩⟩

theorem SameFrame.roiBlockCount_eq : roiBlockCount { s with mem := m } = roiBlockCount s :=
  sumTo_congr fun b hb => by rw [h.roi b hb]

theorem SameFrame.frameCheck_eq : frameCheck { s with mem := m } = frameCheck s := by
  rw [frameCheck, h.roiBlockCount_eq]; rfl

theorem SameFrame.nroiTotals_eq : nroiTotals { s with mem := m } = nroiTotals s := by
  rw [nroiTotals, h.allTotals_eq, h.roiTotals_eq]; rfl

theorem SameFrame.roiValid_eq : roiValid { s with mem := m } = roiValid s :=
  congrArg (fun n => s.roiEn && decide (0 < n)) h.roiBlockCount_eq

theorem SameFrame.nroiValid_eq : nroiValid { s with mem := m } = nroiValid s :=
  congrArg (fun n => s.roiEn && decide (n < frameBlockCount s)) h.roiBlockCount_eq

theorem SameFrame.ssdResults_eq : ssdResults { s with mem := m } = ssdResults s := by
  rw [ssdResults, h.allTotals_eq, h.roiTotals_eq, h.nroiTotals_eq]; rfl

theorem SameFrame.frameResults_eq : frameResults { s with mem := m } = frameResults s := by
  rw [frameResults, h.allTotals_eq, h.roiTotals_eq, h.nroiTotals_eq, h.roiValid_eq, h.nroiValid_eq,
    h.roiBlockCount_eq]
  rfl

theorem SameFrame.sumResults_eq : sumResults { s with mem := m } = sumResults s := by
  rw [sumResults, h.frameResults_eq, h.roiValid_eq, h.nroiValid_eq]; rfl

/-- Every field but the memory is committed from the totals and the number of ROI blocks. -/
theorem SameFrame.commitFrame_eq :
    commitFrame { s with mem := m } =
      { commitFrame s with mem := (commitFrame { s with mem := m }).mem } := by
  rw [commitFrame, h.ssdResults_eq, h.frameResults_eq, h.sumResults_eq, h.roiValid_eq, h.nroiValid_eq,
    h.roiBlockCount_eq]
  rfl

end SameFrame

theorem abortIfFatal_with_mem (s : State) (m : Memory) (c : ErrorCode) :
    abortIfFatal { s with mem := m } c = { abortIfFatal s c with mem := m } := by
  cases hc : fatalForSequence c <;> simp [abortIfFatal, hc]

/-- Settles O25: the same bytes give the same block SSDs and ROI flags, and FRAME takes nothing else from the
buffers. -/
theorem frameReadsOnlyItsInputs : Obligations.FrameReadsOnlyItsInputs := by
  intro s m hlegal hframe hmask
  have hsame := sameFrame_of_bytes hlegal hframe hmask
  cases hcheck : frameCheck s with
  | some c =>
    refine ⟨_, _, exec_frame_error hcheck, exec_frame_error (hsame.frameCheck_eq.trans hcheck), ?_,
      fun hready => ?_⟩
    · rw [abortIfFatal_with_mem]
      rfl
    · rw [frameCheck_of_ready hready] at hcheck
      cases hcheck
  | none =>
    refine ⟨_, _, exec_frame_ok hcheck, exec_frame_ok (hsame.frameCheck_eq.trans hcheck), ?_,
      fun _ b hb => ?_⟩
    · rw [hsame.commitFrame_eq]
      rfl
    · rw [memRead_complete, memRead_complete, memRead_commitFrame_appended s hb, ← hsame.ssdY b hb]
      exact memRead_commitFrame_appended { s with mem := m } hb

/-! ### Identical frames (43 R350) -/

theorem windowSsd_self (f : Nat → Nat) (top stride n : Nat) : windowSsd f f top stride n = 0 := by
  simp [windowSsd, sumTo_eq_sum, sqDiff]

theorem blockSsd_of_identical {s : State} (hlegal : ConfigLegal s)
    (h : ∀ o, o < s.actW.toNat * s.actH.toNat * 3 / 2 →
      byteAt s (0x01000000 + o) = byteAt s (0x02000000 + o)) {b : Nat} (hb : b < frameBlockCount s) :
    blockSsdY s b = 0 ∧ blockSsdU s b = 0 ∧ blockSsdV s b = 0 := by
  obtain ⟨hy, hu, hv⟩ := windowSsd_congr_of_frame hlegal hb (ref := refSample s) (ref' := tstSample s)
    (tst := tstSample s) (tst' := tstSample s) fun o ho => ⟨congrArg BitVec.toNat (h o ho), rfl⟩
  exact ⟨hy.trans (windowSsd_self ..), hu.trans (windowSsd_self ..), hv.trans (windowSsd_self ..)⟩

theorem sumBlocks_eq_zero {s : State} (sel : Nat → Bool) {ssd : Nat → Nat}
    (h : ∀ b, b < frameBlockCount s → ssd b = 0) : sumBlocks s sel ssd = 0 := by
  rw [sumBlocks, sumTo_eq_sum]
  exact Finset.sum_eq_zero fun b hb => by rw [h b (Finset.mem_range.1 hb), ite_self]

theorem partitionTotals_eq_zero {s : State} (sel : Nat → Bool)
    (h : ∀ b, b < frameBlockCount s → blockSsdY s b = 0 ∧ blockSsdU s b = 0 ∧ blockSsdV s b = 0) :
    partitionTotals s sel = ⟨0, 0, 0⟩ := by
  simp only [forall_and] at h
  obtain ⟨hy, hu, hv⟩ := h
  rw [partitionTotals, sumBlocks_eq_zero sel hy, sumBlocks_eq_zero sel hu, sumBlocks_eq_zero sel hv]

/-- MSE +0.0 and PSNR 100.0 for every plane: the statistics of identical inputs. -/
def perfectStats : FrameStats :=
  ⟨0#64, 0#64, 0#64, 0#64, 0x4059000000000000#64, 0x4059000000000000#64,
    0x4059000000000000#64, 0x4059000000000000#64, 0x4059000000000000#64⟩

theorem psnrf_zero : psnrf 0#64 = 0x4059000000000000#64 :=
  psnrWith_of_zero _ (by decide) (by decide)

/-- The weighted mean of three values 100.0 is exact. -/
theorem wpsnrf_hundred :
    wpsnrf 0x4059000000000000#64 0x4059000000000000#64 0x4059000000000000#64 =
      0x4059000000000000#64 := by decide +kernel

theorem frameStats_zero {n : Nat} (hn : 0 < n) (hn' : n < 2 ^ 33) :
    frameStats ⟨0, 0, 0⟩ n = perfectStats := by
  simp only [frameStats, PlaneTotals.t, msef_zero (cnt := n * 256) (by omega) (by omega),
    msef_zero (cnt := n * 64) (by omega) (by omega), msef_zero (cnt := n * 384) (by omega) (by omega),
    psnrf_zero, wpsnrf_hundred]
  rfl

theorem partitionStats_zero {v : Bool} {n : Nat} (hv : v = true) (hn : 0 < n) (hn' : n < 2 ^ 33) :
    partitionStats v ⟨0, 0, 0⟩ n = perfectStats := by
  rw [partitionStats, if_pos hv, frameStats_zero hn hn']

/-- Settles O26: every block's SSDs are 0, so are the totals, and 0 over a valid partition's samples is MSE
+0.0. -/
theorem identicalFramesScoreHundred : Obligations.IdenticalFramesScoreHundred := by
  intro s hready hlegal hsame hundred
  have hzero : ∀ b, b < frameBlockCount s → _ := fun b hb => blockSsd_of_identical hlegal hsame hb
  have hall : allTotals s = ⟨0, 0, 0⟩ := partitionTotals_eq_zero _ hzero
  have hroi : roiTotals s = ⟨0, 0, 0⟩ := partitionTotals_eq_zero _ hzero
  have hnroi : nroiTotals s = ⟨0, 0, 0⟩ := by simp [nroiTotals, hall, hroi]
  have hlt := frameBlockCount_lt s
  have hle : roiBlockCount s ≤ frameBlockCount s := countTo_le _ _
  refine ⟨_, exec_frame_of_ready hready, ?ssdAll, ?ssdRoi, ?ssdNroi, rfl, ?statsAll, fun hv => ?statsRoi,
    fun hv => ?statsNroi, fun b hb => ?entry⟩
  case ssdAll => exact congrArg ssdStats hall
  case ssdRoi =>
    cases h : s.roiEn with
    | false => exact (ssdResults_of_disabled h).1
    | true => exact (ssdResults_of_enabled h).1.trans (congrArg ssdStats hroi)
  case ssdNroi =>
    cases h : s.roiEn with
    | false => exact (ssdResults_of_disabled h).2
    | true => exact (ssdResults_of_enabled h).2.trans (congrArg ssdStats hnroi)
  case statsAll =>
    simp only [complete_resFrame, commitFrame_resFrame, frameResults, hall]
    exact frameStats_zero (frameBlockCount_pos hlegal) (by omega)
  case statsRoi =>
    have hpos : 0 < roiBlockCount s := of_decide_eq_true (Bool.and_eq_true_iff.1 hv).2
    simp only [complete_resFrame, commitFrame_resFrame, frameResults, hroi]
    exact partitionStats_zero hv hpos (by omega)
  case statsNroi =>
    have hpos : roiBlockCount s < frameBlockCount s := of_decide_eq_true (Bool.and_eq_true_iff.1 hv).2
    simp only [complete_resFrame, commitFrame_resFrame, frameResults, hnroi]
    exact partitionStats_zero hv (by omega) (by omega)
  case entry => rw [memRead_complete, memRead_commitFrame_appended s hb, (hzero b hb).1]

end Sys2Proof.Machine
end

section
/-! PROOF. AVGF of one value (41 R259): x /f 1.0 = x for every number, and a sum that starts at +0.0 is the
value it adds, but for a -0.0. -/

set_option autoImplicit false

namespace Sys2Proof

/-! ### Quotients by 1.0 -/

/-- Equal fractions round to one pattern. -/
theorem F64.roundMag_congr {n₁ d₁ n₂ d₂ : Nat} (hd₁ : 0 < d₁) (hd₂ : 0 < d₂)
    (h : n₁ * d₂ = n₂ * d₁) : F64.roundMag n₁ d₁ = F64.roundMag n₂ d₂ :=
  le_antisymm (F64.roundMag_mono hd₁ hd₂ h.le) (F64.roundMag_mono hd₂ hd₁ h.ge)

theorem F64.isInf_iff_magBits (x : F64) : F64.isInf x = true ↔ F64.magBits x = F64.infBits := by
  have hexp := F64.expField_eq_magBits_div x
  have hfrac := F64.fracField_eq_magBits_mod x
  simp only [F64.isInf, Bool.and_eq_true, beq_iff_eq, F64.infBits_eq]
  omega

theorem F64.inf_neg_of_isInf {x : F64} (h : F64.isInf x = true) : F64.inf (F64.neg x) = x := by
  rw [F64.inf, ← (F64.isInf_iff_magBits x).1 h, F64.pack_neg_magBits]

/-- x /f 1.0 = x (41 R259), of an infinity as well. -/
theorem avgf_one {x : F64} (h : F64.isNaN x = false) : avgf x 1 = x := by
  have hone : F64.finite (F64.ofNat 1) = true := F64.finite_ofNat (by decide)
  rcases F64.finite_or_isInf h with hfin | hinf
  · have hmag : F64.mag (F64.ofNat 1) = F64.unit := by rw [F64.mag_ofNat (by decide), one_mul]
    rw [avgf, F64.div_eq_pack hfin hone (hmag ▸ F64.unit_pos.ne'), hmag, F64.neg_ofNat, Bool.bne_false,
      F64.roundMag_congr F64.unit_pos one_pos (mul_one _), F64.roundMag_mag hfin, F64.pack_neg_magBits]
  · simp [avgf, F64.div, h, hinf, F64.isNaN_of_finite hone, F64.isInf_of_finite hone, F64.neg_ofNat,
      F64.inf_neg_of_isInf hinf]

/-! ### Sums that start at +0.0 -/

theorem F64.units_eq_zero_iff (x : F64) : F64.units x = 0 ↔ F64.isZero x = true := by
  rw [← F64.mag_eq_zero_iff, ← F64.natAbs_units, Int.natAbs_eq_zero]

/-- The units of a value that is no zero have its sign. -/
theorem F64.decide_units_neg {x : F64} (h0 : F64.units x ≠ 0) : decide (F64.units x < 0) = F64.neg x := by
  have hsigned := F64.units_eq_signed x
  cases hneg : F64.neg x with
  | true =>
    rw [hneg, F64.signed_true] at hsigned
    exact decide_eq_true (by omega)
  | false =>
    rw [hneg, F64.signed_false] at hsigned
    exact decide_eq_false (by omega)

theorem F64.round_units {x : F64} (h : F64.finite x = true) (h0 : F64.units x ≠ 0) :
    F64.round (F64.units x) 1 = x := by
  rw [F64.round, F64.decide_units_neg h0, F64.natAbs_units, F64.roundMag_mag h, F64.pack_neg_magBits]

/-- Both zeros give +0.0, and every other number itself. -/
theorem F64.zero_add_eq {x : F64} (h : F64.isNaN x = false) :
    F64.add 0#64 x = if F64.units x = 0 then 0#64 else x := by
  have hnan : F64.isNaN 0#64 = false := by decide
  have hinf0 : F64.isInf 0#64 = false := by decide
  have hneg : F64.neg 0#64 = false := by decide
  rcases F64.finite_or_isInf h with hfin | hinf
  · simp only [F64.add, hnan, h, hinf0, F64.isInf_of_finite hfin, F64.units_zero, zero_add, hneg,
      Bool.or_self, Bool.false_eq_true, if_false, Bool.false_and, F64.zero_false]
    split_ifs with h0
    · rfl
    · exact F64.round_units hfin h0
  · have h0 : F64.units x ≠ 0 := by simp [F64.units_eq_zero_iff, F64.isZero_of_isInf hinf]
    simp [F64.add, hnan, h, hinf0, hinf, h0]

/-- A sum of one number is that number in the comparisons. -/
theorem F64.eq_zero_add {x : F64} (h : F64.isNaN x = false) : F64.eq (F64.add 0#64 x) x = true := by
  rw [F64.zero_add_eq h]
  split_ifs with h0
  · exact F64.eq_iff.2 ⟨by decide, h, by rw [F64.units_zero, h0]⟩
  · exact F64.eq_iff.2 ⟨h, h, rfl⟩

/-- Without a sign bit there is no -0.0, and the sum is exact to the bit. -/
theorem F64.zero_add_of_not_neg {x : F64} (h : F64.isNaN x = false) (hneg : F64.neg x = false) :
    F64.add 0#64 x = x := by
  rw [F64.zero_add_eq h]
  split_ifs with h0
  · rw [F64.units_eq_zero_iff, F64.isZero, beq_iff_eq] at h0
    rw [← F64.pack_neg_magBits x, hneg, h0]
    rfl
  · rfl

/-- AVGF over one frame, of a sum that starts at +0.0. -/
theorem eq_avgf_one_zero_add {x : F64} (h : F64.isNaN x = false) :
    F64.eq (avgf (F64.add 0#64 x) 1) x = true := by
  have heq := F64.eq_zero_add h
  obtain ⟨hsum, -, -⟩ := F64.eq_iff.1 heq
  rwa [avgf_one hsum]

theorem avgf_one_zero_add_of_not_neg {x : F64} (h : F64.isNaN x = false) (hneg : F64.neg x = false) :
    avgf (F64.add 0#64 x) 1 = x := by
  rw [F64.zero_add_of_not_neg h hneg, avgf_one h]

/-! ### The values a frame adds -/

theorem neg_msef {ssd cnt : Nat} (hssd : ssd < 2 ^ 53) (hcnt : 1 ≤ cnt) (hcnt' : cnt < 2 ^ 53) :
    F64.neg (msef ssd cnt) = false := by
  have hmag : F64.mag (F64.ofNat cnt) ≠ 0 := by
    rw [F64.mag_ofNat hcnt']
    exact (Nat.mul_pos hcnt F64.unit_pos).ne'
  rw [msef, F64.div_eq_pack (F64.finite_ofNat hssd) (F64.finite_ofNat hcnt') hmag,
    F64.neg_pack _ (F64.roundMag_lt _ _), F64.neg_ofNat, F64.neg_ofNat, bne_self_eq_false]

/-- An MSE is finite and has no sign bit, so one frame's average is that MSE, bit for bit. -/
theorem avgf_one_zero_add_msef {ssd cnt : Nat} (hssd : ssd < 2 ^ 53) (hcnt : 1 ≤ cnt)
    (hcnt' : cnt < 2 ^ 53) : avgf (F64.add 0#64 (msef ssd cnt)) 1 = msef ssd cnt :=
  avgf_one_zero_add_of_not_neg (F64.isNaN_of_finite (finite_msef hssd hcnt hcnt'))
    (neg_msef hssd hcnt hcnt')

/-- Only another infinity as the divisor makes a NaN of an infinity's quotient. -/
theorem F64.isNaN_div_of_finite {x d : F64} (hx : F64.isNaN x = false) (hd : F64.finite d = true)
    (hpos : 0 < F64.units d) : F64.isNaN (F64.div x d) = false := by
  rcases F64.finite_or_isInf hx with hfin | hinf
  · exact (F64.roundsTo_div hfin hd hpos).isNaN_eq_false
  · simp [F64.div, hx, F64.isNaN_of_finite hd, hinf, F64.isInf_of_finite hd, F64.isNaN_inf]

theorem F64.isNaN_add_of_finite_right {x y : F64} (hx : F64.isNaN x = false) (hy : F64.finite y = true) :
    F64.isNaN (F64.add x y) = false := by
  rcases F64.finite_or_isInf hx with hfin | hinf
  · exact F64.isNaN_add_of_finite hfin (F64.isNaN_of_finite hy)
  · simp [F64.add, hx, F64.isNaN_of_finite hy, hinf, F64.isInf_of_finite hy]

/-- The weighted PSNR of finite PSNRs may overflow, and is a number all the same. -/
theorem isNaN_wpsnrf {py pu pv : F64} (hy : F64.finite py = true) (hu : F64.finite pu = true)
    (hv : F64.finite pv = true) : F64.isNaN (wpsnrf py pu pv) = false := by
  have hsix : F64.isNaN (F64.mul (F64.ofNat 6) py) = false :=
    (F64.roundsTo_mul (F64.finite_ofNat (by decide)) hy).isNaN_eq_false
  have hsum := F64.isNaN_add_of_finite_right (F64.isNaN_add_of_finite_right hsix hu) hv
  exact F64.isNaN_div_of_finite hsum (F64.finite_ofNat (by decide))
    (F64.units_ofNat_pos (by decide) (by decide))

end Sys2Proof
end

section
/-! PROOF. SEQ_FINISH (44 R400 to R402): its checks, the averages it writes, and those of a sequence of one
frame. -/

set_option autoImplicit false

namespace Sys2Proof.Machine

/-! ### The command -/

theorem seqFinishCheck_of_not_opened {s : State} (h : s.seqState ≠ .opened) :
    seqFinishCheck s = some .seqState := by
  rw [seqFinishCheck, if_pos h]

theorem seqFinishCheck_of_empty {s : State} (ho : s.seqState = .opened) (h : s.frames = 0) :
    seqFinishCheck s = some .seqEmpty := by
  rw [seqFinishCheck, if_neg (not_not.2 ho), if_pos h]

theorem seqFinishCheck_of_frames {s : State} (ho : s.seqState = .opened) (h : s.frames ≠ 0) :
    seqFinishCheck s = none := by
  rw [seqFinishCheck, if_neg (not_not.2 ho), if_neg h]

theorem seqPartValid_eq (s : State) (nf : Word) :
    seqPartValid s nf = (s.roiEn && decide (nf ≠ 0#32)) := by
  have h : 1 ≤ nf.toNat ↔ nf ≠ 0#32 := by
    rw [Nat.one_le_iff_ne_zero, ne_eq, ne_eq, BitVec.toNat_eq]
    rfl
  rw [seqPartValid, decide_eq_decide.2 h]

theorem seqPartValid_iff {s : State} {nf : Word} :
    seqPartValid s nf = true ↔ s.roiEn = true ∧ nf ≠ 0#32 := by
  rw [seqPartValid_eq, Bool.and_eq_true, decide_eq_true_iff]

theorem averagesOf_seqStats (m : FrameStats) (n : Nat) : AveragesOf m n (seqStats m n) := by
  constructor <;> rfl

/-- A partition has the averages over its own frame counter, or +0.0 each. -/
theorem averagesOf_seqPartStats (s : State) (nf : Word) (m : FrameStats) :
    if s.roiEn = true ∧ nf ≠ 0#32 then
      AveragesOf m nf.toNat (seqPartStats (seqPartValid s nf) m nf.toNat)
    else seqPartStats (seqPartValid s nf) m nf.toNat = {} := by
  split_ifs with h
  · rw [seqPartValid_iff.2 h]
    exact averagesOf_seqStats m nf.toNat
  · rw [Bool.eq_false_of_not_eq_true (mt seqPartValid_iff.1 h), seqPartStats_false]

/-- Settles O27: with frames in an open sequence no check fails and `closeSequence` writes just these
fields; an error leaves the error commit alone. -/
theorem seqFinishAveragesAndCloses : Obligations.SeqFinishAveragesAndCloses := by
  intro s
  refine ⟨fun ho hf => ?closes, fun ho => ?notOpened, fun ho hf => ?empty⟩
  case closes =>
    refine ⟨_, exec_seqFinish_ok (seqFinishCheck_of_frames ho hf), ?_, averagesOf_seqStats _ _,
      averagesOf_seqPartStats s s.roiFrames _, averagesOf_seqPartStats s s.nroiFrames _⟩
    rw [← seqPartValid_eq, ← seqPartValid_eq]
    rfl
  case notOpened =>
    rw [exec_seqFinish_error (seqFinishCheck_of_not_opened ho), raiseError_eq_failedWith]
  case empty =>
    rw [exec_seqFinish_error (seqFinishCheck_of_empty ho hf), raiseError_eq_failedWith]

/-! ### The totals of a legal frame are exact in binary64 -/

theorem frameBlockCount_lt_of_legal {s : State} (h : ConfigLegal s) : frameBlockCount s < 2 ^ 24 := by
  have hcols : s.nbw.toNat < 2 ^ 12 := by rw [h.columns]; have := s.actW.isLt; omega
  have hrows : s.nbh.toNat < 2 ^ 12 := by rw [h.rows]; have := s.actH.isLt; omega
  exact Nat.mul_lt_mul'' (c := 2 ^ 12) (d := 2 ^ 12) hcols hrows

theorem sumBlocks_le_of_legal {s : State} (h : ConfigLegal s) (sel : Nat → Bool) {ssd : Nat → Nat}
    {c : Nat} (hc : ∀ b, ssd b ≤ c) : sumBlocks s sel ssd ≤ 2 ^ 24 * c := by
  refine (sumTo_le_mul fun b _ => ?_).trans
    (Nat.mul_le_mul_right c (frameBlockCount_lt_of_legal h).le)
  split
  · exact hc b
  · exact Nat.zero_le c

theorem t_partitionTotals_lt_of_legal {s : State} (h : ConfigLegal s) (sel : Nat → Bool) :
    (partitionTotals s sel).t < 2 ^ 53 := by
  have hy := sumBlocks_le_of_legal h sel (ssd := blockSsdY s) fun b => windowSsd_samples_le s _ _ 16
  have hu := sumBlocks_le_of_legal h sel (ssd := blockSsdU s) fun b => windowSsd_samples_le s _ _ 8
  have hv := sumBlocks_le_of_legal h sel (ssd := blockSsdV s) fun b => windowSsd_samples_le s _ _ 8
  simp only [PlaneTotals.t, partitionTotals]
  omega

theorem t_nroiTotals_le (s : State) : (nroiTotals s).t ≤ (allTotals s).t := by
  simp only [PlaneTotals.t, nroiTotals]
  omega

/-! ### One frame (44 R400's corner case) -/

/-- The averages over one frame, of sums that were +0.0 before it. -/
theorem oneFrameAverages_frameStats {sum : FrameStats} {p : PlaneTotals} {n m : Nat} (hsum : sum = {})
    (hm : m = 1) (hp : p.t < 2 ^ 53) (hn : 0 < n) (hn' : n < 2 ^ 24) :
    OneFrameAverages (frameStats p n) (seqStats (addStats sum (frameStats p n)) m) := by
  subst hsum hm
  have ht : p.y + p.u + p.v < 2 ^ 53 := hp
  have hmse : ∀ {ssd k : Nat}, ssd < 2 ^ 53 → 0 < k → k ≤ 384 →
      avgf (F64.add 0#64 (msef ssd (n * k))) 1 = msef ssd (n * k) := fun hssd hk hk' =>
    avgf_one_zero_add_msef hssd (Nat.mul_pos hn hk)
      ((Nat.mul_le_mul hn'.le hk').trans_lt (by decide))
  have hy := hmse (ssd := p.y) (k := 256) (by omega) (by decide) (by decide)
  have hu := hmse (ssd := p.u) (k := 64) (by omega) (by decide) (by decide)
  have hv := hmse (ssd := p.v) (k := 64) (by omega) (by decide) (by decide)
  have htot := hmse (ssd := p.t) (k := 384) hp (by decide) (by decide)
  have hpsnr : ∀ m, F64.eq (avgf (F64.add 0#64 (psnrf m)) 1) (psnrf m) = true := fun m =>
    eq_avgf_one_zero_add (F64.isNaN_of_finite (finite_psnrf m))
  exact {
    amseY := hy
    amseU := hu
    amseV := hv
    amseT := htot
    spsnrY := congrArg psnrf hy
    spsnrU := congrArg psnrf hu
    spsnrV := congrArg psnrf hv
    spsnrT := congrArg psnrf htot
    awpsnr := eq_avgf_one_zero_add (isNaN_wpsnrf (finite_psnrf _) (finite_psnrf _) (finite_psnrf _))
    apsnrY := hpsnr _
    apsnrU := hpsnr _
    apsnrV := hpsnr _
    apsnrT := hpsnr _ }

/-- A partition's sequence results after the one frame that FRAME has added to its empty sums, when that
frame has validated it. -/
theorem oneFrameAverages_partition {sum : FrameStats} {p : PlaneTotals} {n : Nat} {nf : Word} {v : Bool}
    {t : State} (hsum : sum = {}) (hnf : nf = 0#32) (hv : v = true) (hroi : t.roiEn = true)
    (hp : p.t < 2 ^ 53) (hn : 0 < n) (hn' : n < 2 ^ 24) :
    OneFrameAverages (partitionStats v p n)
      (seqPartStats (seqPartValid t (countIf v nf)) (partitionSums v sum (partitionStats v p n))
        (countIf v nf).toNat) := by
  subst hv hnf
  have hvalid : seqPartValid t (countIf true 0#32) = true := seqPartValid_iff.2 ⟨hroi, by decide⟩
  rw [hvalid]
  exact oneFrameAverages_frameStats hsum rfl hp hn hn'

/-- SEQ_FINISH finds a partition valid when the sequence's one frame did. -/
theorem seqPartValid_countIf {t : State} {v : Bool} {nf : Word} (hnf : nf = 0#32)
    (hroi : v = true → t.roiEn = true) : seqPartValid t (countIf v nf) = v := by
  subst hnf
  cases v with
  | true => exact seqPartValid_iff.2 ⟨hroi rfl, by decide⟩
  | false => rw [seqPartValid_eq]; exact Bool.and_false _

/-- Settles O40: on empty sums FRAME's sums are its own values, whose average over 1 is exact; the MSEs
have no sign bit, and of the PSNRs a -0.0 alone may change its sign. -/
theorem averagesOfOneFrameAreItsValues : Obligations.AveragesOfOneFrameAreItsValues := by
  refine ⟨fun x hx => avgf_one (F64.isNaN_of_finite hx),
    fun s hready hlegal hframes hroiFrames hnroiFrames hsum => ?_⟩
  have hroiEn : roiValid s = true → s.roiEn = true := fun hv => (roiValid_iff.1 hv).1
  have hnroiEn : nroiValid s = true → s.roiEn = true := fun hv => (nroiValid_iff.1 hv).1
  have hlt := frameBlockCount_lt_of_legal hlegal
  have hle : roiBlockCount s ≤ frameBlockCount s := countTo_le _ _
  have htotals := t_partitionTotals_lt_of_legal hlegal
  have hone : s.frames + 1#32 = 1#32 := by rw [hframes]; rfl
  have hcheck : seqFinishCheck (complete (commitFrame s)) = none :=
    seqFinishCheck_of_frames hready.opened (by simp [hframes])
  refine ⟨_, _, exec_frame_of_ready hready, exec_seqFinish_ok hcheck, ?all, fun hv => ?roi,
    fun hv => ?nroi, seqPartValid_countIf hroiFrames hroiEn, seqPartValid_countIf hnroiFrames hnroiEn⟩
  case all =>
    exact oneFrameAverages_frameStats (congrArg Parts.all hsum) (congrArg BitVec.toNat hone)
      (htotals _) (frameBlockCount_pos hlegal) hlt
  case roi =>
    have hpos : 0 < roiBlockCount s := of_decide_eq_true (Bool.and_eq_true_iff.1 hv).2
    exact oneFrameAverages_partition (congrArg Parts.roi hsum) hroiFrames hv (hroiEn hv) (htotals _)
      hpos (by omega)
  case nroi =>
    have hpos : roiBlockCount s < frameBlockCount s := of_decide_eq_true (Bool.and_eq_true_iff.1 hv).2
    exact oneFrameAverages_partition (congrArg Parts.nroi hsum) hnroiFrames hv (hnroiEn hv)
      ((t_nroiTotals_le s).trans_lt (htotals _)) (by omega) (by omega)

end Sys2Proof.Machine
end

section
/-! PROOF. With EP_SKIP = 0 and ROI_EN = 1 the three frame counters agree in an open sequence (44 R401): FRAME
moves all three or none, and the flags change only outside an open sequence. -/

set_option autoImplicit false

namespace Sys2Proof.Machine

/-! ### The sequence commands -/

theorem countersAgree_of_not_opened {s : State} (h : s.seqState ≠ .opened) : CountersAgree s :=
  fun ho => absurd ho h

theorem configCheck_eq_none_not_opened {s : State} {r : Bool} (h : configCheck s r = none) :
    s.seqState ≠ .opened := fun ho => by
  rw [configCheck_of_opened r ho] at h
  cases h

/-- With EP_SKIP = 0 and ROI_EN = 1 a FRAME that completes has found both partitions valid (43 R355). -/
theorem frameCheck_eq_none_valid {s : State} (h : frameCheck s = none) (hroi : s.roiEn = true)
    (hskip : s.epSkip = false) : roiValid s = true ∧ nroiValid s = true := by
  unfold frameCheck at h
  split_ifs at h with hopen hfull hempty hwhole
  have hpos : 0 < roiBlockCount s := Nat.pos_of_ne_zero fun h0 => hempty ⟨hroi, hskip, h0⟩
  have hlt : roiBlockCount s < frameBlockCount s :=
    (countTo_le _ _).lt_of_ne fun hall => hwhole ⟨hroi, hskip, hall⟩
  exact ⟨by simp [roiValid, hroi, hpos], by simp [nroiValid, hroi, hlt]⟩

theorem countersAgree_commitFrame {s : State} (h : CountersAgree s) (hc : frameCheck s = none) :
    CountersAgree (commitFrame s) := by
  intro ho hroi hskip
  obtain ⟨hagree, hagree'⟩ := h ho hroi hskip
  obtain ⟨hv, hv'⟩ := frameCheck_eq_none_valid hc hroi hskip
  rw [commitFrame_roiFrames, commitFrame_nroiFrames, commitFrame_frames, hv, hv', hagree, hagree']
  exact ⟨rfl, rfl⟩

theorem countersAgree_abortIfFatal {s : State} (h : CountersAgree s) (c : ErrorCode) :
    CountersAgree (abortIfFatal s c) := by
  unfold abortIfFatal
  split
  · exact countersAgree_of_not_opened (by simp)
  · exact h

/-! ### The bus -/

theorem countersAgree_issue {s : State} (h : CountersAgree s) (w : Word) :
    CountersAgree (issue s w) := by
  obtain ⟨_, heq⟩ | ⟨_, _, _, heq⟩ | ⟨_, _, heq⟩ := issue_cases s w
  · rw [heq]; exact h
  · rw [heq]; exact h
  · rw [heq]; exact h

theorem countersAgree_writeWindow {s : State} (h : CountersAgree s) (off : Nat) (v : Word) :
    CountersAgree (writeWindow s off v) := by
  obtain ⟨d, w, ht, lo, hi, heq⟩ | heq | heq | heq := writeWindow_cases s off v
  · rw [heq]; exact h
  · rw [heq]; exact countersAgree_issue h v
  · rw [heq]; exact h
  · rw [heq]; exact h

theorem countersAgree_writeBuffer {s : State} (h : CountersAgree s) (sp : Space) (boff : Nat)
    (sz : Size) (w : Word) : CountersAgree (writeBuffer s sp boff sz w) := by
  unfold writeBuffer
  split
  · exact h
  · exact h

theorem countersAgree_hostAccess {s : State} (h : CountersAgree s) (a : Access) (off : Nat)
    (sz : Size) : CountersAgree (hostAccess s a off sz) := by
  obtain heq | ⟨-, -, heq⟩ | ⟨w, -, -, heq⟩ | ⟨_, _, -, -, -, heq⟩ | ⟨sp, boff, w, -, -, -, -, heq⟩ :=
    hostAccess_cases s a off sz
  · rw [heq]; exact h
  · rw [heq]; exact h
  · rw [heq]; exact countersAgree_writeWindow h off w
  · rw [heq]; exact h
  · rw [heq]; exact countersAgree_writeBuffer h sp boff sz w

/-! ### Every command and every step -/

theorem countersAgree_exec {i : Instr} {s t : State} (h : CountersAgree s)
    (he : exec i s = .next t) : CountersAgree t := by
  cases i with
  | nop => cases he; exact h
  | config r e =>
    obtain ⟨c, -, rfl⟩ | ⟨hc, rfl⟩ := execConfig_cases he
    · exact h
    · exact countersAgree_of_not_opened (configCheck_eq_none_not_opened hc)
  | seqStart =>
    obtain ⟨-, rfl⟩ | ⟨-, rfl⟩ := execSeqStart_cases he
    · exact h
    · exact fun _ _ _ => ⟨rfl, rfl⟩
  | frame =>
    obtain ⟨c, -, rfl⟩ | ⟨hc, rfl⟩ := execFrame_cases he
    · exact countersAgree_abortIfFatal h c
    · exact countersAgree_commitFrame h hc
  | seqFinish =>
    obtain ⟨c, -, rfl⟩ | ⟨-, rfl⟩ := execSeqFinish_cases he
    · exact h
    · exact countersAgree_of_not_opened (by simp)
  | map n x =>
    obtain ⟨c, -, rfl⟩ | ⟨-, c, -, rfl⟩ | ⟨-, -, rfl⟩ := execMap_cases he
    · exact h
    · exact h
    · exact h
  | clearErr => cases he; exact h
  | softReset => cases he; exact countersAgree_of_not_opened (by simp)

theorem countersAgree_engineStep {s t : State} (h : CountersAgree s)
    (he : engineStep s = .next t) : CountersAgree t := by
  obtain ⟨-, rfl⟩ | ⟨-, i, -, hi⟩ | ⟨-, -, rfl⟩ := engineStep_cases he
  · exact h
  · exact countersAgree_exec h hi
  · exact h

/-- Settles O57: the engine's step and a transaction keep the agreement, and after a reset SEQ_STATE is
IDLE. -/
theorem stepKeepsCountersAgree : Obligations.StepKeepsCountersAgree := by
  intro s t h hstep
  obtain ⟨-, he⟩ | ⟨q, -, he⟩ | ⟨x, q, -, hx⟩ | ⟨q, -, rfl⟩ := step_cases hstep
  · exact countersAgree_engineStep h he
  · exact countersAgree_engineStep (s := withInbox s q) h he
  · obtain ⟨-, rfl⟩ := busTransaction_cases hx
    exact countersAgree_hostAccess (s := withInbox s q) h _ _ _
  · exact countersAgree_of_not_opened (by simp)

end Sys2Proof.Machine
end

section
/-! PROOF. MAP (45 R430 to R437): which of its checks fails first, that the bounds are numbers, the bytes it
writes, and its corner cases. -/

set_option autoImplicit false

namespace Sys2Proof

/-! ### Numbers are comparable, and a percentile is a number -/

theorem F64.trichotomy {x y : F64} (hx : F64.isNaN x = false) (hy : F64.isNaN y = false) :
    F64.lt y x = true ∨ F64.eq y x = true ∨ F64.lt x y = true := by
  simp only [F64.lt_iff, F64.eq_iff, hx, hy, true_and]
  omega

theorem F64.not_lt_of_eq {x y : F64} (h : F64.eq x y = true) : ¬ F64.lt x y = true := by
  rw [F64.eq_iff] at h
  rw [F64.lt_iff]
  omega

theorem F64.not_lt_and_not_eq_of_lt {x y : F64} (h : F64.lt x y = true) :
    ¬ F64.lt y x = true ∧ ¬ F64.eq y x = true := by
  rw [F64.lt_iff] at h
  rw [F64.lt_iff, F64.eq_iff]
  omega

theorem F64.eq_refl {x : F64} (h : F64.isNaN x = false) : F64.eq x x = true :=
  F64.eq_iff.2 ⟨h, h, rfl⟩

/-- `finite` of 45 R430, on the bits. -/
theorem F64.finite_eq_false_iff (x : F64) :
    F64.finite x = false ↔ x.extractLsb' 52 11 = 0x7FF#11 := by
  rw [← BitVec.toNat_inj, BitVec.extractLsb'_toNat, Nat.shiftRight_eq_div_pow]
  simp [F64.finite, F64.expField]

theorem isNaN_pctf {vs : List F64} (h : ∀ v ∈ vs, F64.finite v = true) (p : Nat) :
    F64.isNaN (pctf p vs) = false := by
  obtain ⟨-, -, -, -, hnumber⟩ :=
    percentileSortsAndInterpolates vs fun v hv => F64.isNaN_of_finite (h v hv)
  exact hnumber h p

theorem pctf_singleton (p : Nat) (v : F64) : pctf p [v] = v :=
  pctf_of_rank (vs := [v]) (i := 0) rfl

end Sys2Proof

namespace Sys2Proof.Machine

/-! ### The checks before the bounds are known (45 R430) -/

section Checks

variable {s : State} {n x : Bool}

theorem mapCheck_of_not_closed (h : s.seqState ≠ .closed) : mapCheck s n x = some .seqState := by
  rw [mapCheck, if_pos h]

theorem mapCheck_of_empty (hc : s.seqState = .closed) (h : s.storeCount = 0) :
    mapCheck s n x = some .mapEmpty := by
  rw [mapCheck, if_neg (not_not.2 hc), if_pos h]

theorem mapCheck_of_stored (hc : s.seqState = .closed) (h : s.storeCount ≠ 0) :
    mapCheck s n x =
      if (n = true ∧ F64.finite s.mapMin = false) ∨ (x = true ∧ F64.finite s.mapMax = false) then
        some .mapBoundInvalid
      else none := by
  rw [mapCheck, if_neg (not_not.2 hc), if_neg h, ite_or]

theorem mapCheck_of_finite (hc : s.seqState = .closed) (h : s.storeCount ≠ 0)
    (hn : n = true → F64.finite s.mapMin = true) (hx : x = true → F64.finite s.mapMax = true) :
    mapCheck s n x = none := by
  rw [mapCheck_of_stored hc h, if_neg]
  rintro (⟨h, hfin⟩ | ⟨h, hfin⟩)
  · simp [hn h] at hfin
  · simp [hx h] at hfin

theorem exec_map_failedWith {c : ErrorCode} (h : mapCheck s n x = some c) :
    exec (.map n x) s = .next (failedWith s c) := by
  rw [exec_map_error h, raiseError_eq_failedWith]

end Checks

/-- Settles O29: the check that fails is the one the statement names, and nothing survives these errors. -/
theorem mapEarlyErrorsInOrder : Obligations.MapEarlyErrorsInOrder := by
  intro s n x
  refine ⟨fun h => exec_map_failedWith (mapCheck_of_not_closed h), fun hc =>
    ⟨fun h => exec_map_failedWith (mapCheck_of_empty hc h), fun h hbound => exec_map_failedWith ?_⟩⟩
  rw [← F64.finite_eq_false_iff, ← F64.finite_eq_false_iff] at hbound
  rw [mapCheck_of_stored hc h, if_pos hbound]

/-! ### The bounds are numbers (41 R262) -/

theorem lowerBound_explicit (s : State) : lowerBound s true = s.mapMin := rfl

theorem lowerBound_automatic (s : State) : lowerBound s false = pctf 10 (blockPsnrs s) :=
  if_neg Bool.false_ne_true

theorem upperBound_explicit (s : State) : upperBound s true = s.mapMax := rfl

theorem upperBound_automatic (s : State) : upperBound s false = pctf 90 (blockPsnrs s) :=
  if_neg Bool.false_ne_true

theorem finite_bpsnrf (ssd : Nat) : F64.finite (bpsnrf ssd) = true := finite_psnrf _

theorem finite_of_mem_blockPsnrs {s : State} : ∀ v ∈ blockPsnrs s, F64.finite v = true := by
  intro v hv
  obtain ⟨i, -, rfl⟩ := List.mem_map.1 hv
  exact finite_bpsnrf _

theorem isNaN_lowerBound {s : State} {n : Bool} (h : n = true → F64.finite s.mapMin = true) :
    F64.isNaN (lowerBound s n) = false := by
  cases n with
  | false => rw [lowerBound_automatic]; exact isNaN_pctf finite_of_mem_blockPsnrs 10
  | true => rw [lowerBound_explicit]; exact F64.isNaN_of_finite (h rfl)

theorem isNaN_upperBound {s : State} {x : Bool} (h : x = true → F64.finite s.mapMax = true) :
    F64.isNaN (upperBound s x) = false := by
  cases x with
  | false => rw [upperBound_automatic]; exact isNaN_pctf finite_of_mem_blockPsnrs 90
  | true => rw [upperBound_explicit]; exact F64.isNaN_of_finite (h rfl)

/-! ### The checks of the bounds (45 R430) -/

section Bounds

variable {lo hi : F64}

theorem boundCheck_of_inverted (h : F64.lt hi lo = true) : boundCheck lo hi = some .mapInverted := by
  rw [boundCheck, if_pos h]

theorem boundCheck_of_eq (h : F64.eq hi lo = true) : boundCheck lo hi = some .mapDegenerate := by
  rw [boundCheck, if_neg (F64.not_lt_of_eq h), if_pos h]

theorem boundCheck_of_lt (h : F64.lt lo hi = true) :
    boundCheck lo hi =
      if F64.sub hi lo = 0x7FF0000000000000#64 then some .mapBoundInvalid else none := by
  obtain ⟨hlt, heq⟩ := F64.not_lt_and_not_eq_of_lt h
  rw [boundCheck, if_neg hlt, if_neg heq]
  rfl

end Bounds

theorem boundErrorWrites_eq (s : State) (lo hi : F64) :
    boundErrorWrites s lo hi =
      { s with mapMinEff := lo, mapMaxEff := hi, mapCount := 0#32,
               valid := { s.valid with mapValid := false } } := rfl

theorem exec_map_boundError_failedWith {s : State} {n x : Bool} {c : ErrorCode}
    (h : mapCheck s n x = none) (hb : boundCheck (lowerBound s n) (upperBound s x) = some c) :
    exec (.map n x) s =
      .next (failedWith (boundErrorWrites s (lowerBound s n) (upperBound s x)) c) := by
  rw [exec_map_boundError h hb, raiseError_eq_failedWith]

/-- Settles O30: each comparison of the bounds fixes the check that fails, and a bound error leaves the
writes of 45 R437 and the error commit. -/
theorem mapBoundErrorsKeepTheBounds : Obligations.MapBoundErrorsKeepTheBounds := by
  rintro s n x _ lo hi _ hc hstored hn hx rfl hlo hhi rfl
  obtain rfl : lo = lowerBound s n := hlo
  obtain rfl : hi = upperBound s x := hhi
  have hnlo := isNaN_lowerBound hn
  have hnhi := isNaN_upperBound hx
  have hcheck := mapCheck_of_finite hc hstored hn hx
  refine ⟨⟨hnlo, hnhi, F64.trichotomy hnlo hnhi⟩,
    fun h => exec_map_boundError_failedWith hcheck (boundCheck_of_inverted h),
    fun h => exec_map_boundError_failedWith hcheck (boundCheck_of_eq h),
    fun h hinf => exec_map_boundError_failedWith hcheck ?_⟩
  rw [boundCheck_of_lt h, if_pos hinf]

theorem blockPsnrs_of_one {s : State} (h : s.storeCount = 1) :
    blockPsnrs s = [bpsnrf (memRead s .store 0 4)] := by
  rw [blockPsnrs, h]; rfl

/-- Settles O31: both percentiles of one value are that value, and a number equals itself. -/
theorem singleBlockAutomaticMapIsDegenerate : Obligations.SingleBlockAutomaticMapIsDegenerate := by
  intro s hc hone
  have hlo : lowerBound s false = bpsnrf (memRead s .store 0 4) := by
    rw [lowerBound_automatic, blockPsnrs_of_one hone, pctf_singleton]
  have hhi : upperBound s false = bpsnrf (memRead s .store 0 4) := by
    rw [upperBound_automatic, blockPsnrs_of_one hone, pctf_singleton]
  have hcheck : mapCheck s false false = none :=
    mapCheck_of_finite hc (by rw [hone]; decide) nofun nofun
  have heq : F64.eq (upperBound s false) (lowerBound s false) = true := by
    rw [hhi, hlo]
    exact F64.eq_refl (F64.isNaN_of_finite (finite_bpsnrf _))
  rw [exec_map_boundError_failedWith hcheck (boundCheck_of_eq heq), hlo, hhi,
    boundErrorWrites_eq]

/-! ### The map (45 R432 to R435) -/

theorem length_mapBytes (s : State) (lo hi : F64) : (mapBytes s lo hi).length = s.storeCount.toNat := by
  simp [mapBytes, blockPsnrs]

theorem byteAt_commitMap_inside (s : State) (lo hi : F64) {i : Nat} (hi' : i < s.storeCount.toNat) :
    byteAt (commitMap s lo hi) (0x05000000 + i) = quantf (bpsnrf (memRead s .store (4 * i) 4)) lo hi := by
  have hlen : i < (mapBytes s lo hi).length := by rwa [length_mapBytes]
  rw [byteAt_of_lookup (lookup_writeBytes_inside _ _ _ i hlen)]
  simp [mapBytes, blockPsnrs, storeEntry]

theorem byteAt_commitMap_outside (s : State) (lo hi : F64) {a : Nat}
    (ha : a < 0x05000000 ∨ 0x05000000 + s.storeCount.toNat ≤ a) :
    byteAt (commitMap s lo hi) a = byteAt s a :=
  byteAt_congr (lookup_writeBytes_outside _ _ _ _ (by rwa [length_mapBytes])) rfl

theorem complete_commitMap_eq (s : State) (lo hi : F64) :
    complete (commitMap s lo hi) =
      { s with busy := false, done := true, mem := (complete (commitMap s lo hi)).mem, mapMinEff := lo,
               mapMaxEff := hi, mapCount := s.storeCount,
               valid := { s.valid with mapValid := true } } := rfl

/-- Settles O28: no check fails, and `commitMap` writes the bytes of the stored blocks one after another. -/
theorem mapQuantizesEveryBlock : Obligations.MapQuantizesEveryBlock := by
  rintro s n x _ lo hi hc hstored hn hx rfl hlo hhi hlt hfin
  obtain rfl : lo = lowerBound s n := hlo
  obtain rfl : hi = upperBound s x := hhi
  have hbounds : boundCheck (lowerBound s n) (upperBound s x) = none :=
    (boundCheck_of_lt hlt).trans (if_neg hfin)
  exact ⟨_, exec_map_ok (mapCheck_of_finite hc hstored hn hx) hbounds,
    complete_commitMap_eq s _ _, fun i hi => byteAt_commitMap_inside s _ _ hi,
    fun a ha => byteAt_commitMap_outside s _ _ ha⟩

/-! ### MAP_EMPTY (45 R430) -/

/-- CLOSED implies a frame, and every frame stored a block. -/
theorem storeCount_ne_zero_of_closed {s : State} (h : Inv s) (hc : s.seqState = .closed) :
    s.storeCount ≠ 0 := by
  have hpos := (h.closed_has_frames hc).trans h.frames_stored
  intro h0
  simp [h0] at hpos

theorem mapCheck_ne_mapEmpty {s : State} (h : Inv s) (n x : Bool) :
    mapCheck s n x ≠ some .mapEmpty := by
  by_cases hc : s.seqState = .closed
  · rw [mapCheck_of_stored hc (storeCount_ne_zero_of_closed h hc)]
    split_ifs <;> simp
  · simp [mapCheck_of_not_closed hc]

/-- Settles O59: MAP_EMPTY is none of the bound errors, the check before the bounds does not answer it, and
a MAP that completes keeps ERRCODE, which is NONE while ERR = 0. -/
theorem mapEmptyNeverOccurs : Obligations.MapEmptyNeverOccurs := by
  intro s t n x hinv herr h
  obtain ⟨c, hc, rfl⟩ | ⟨-, c, hb, rfl⟩ | ⟨-, -, rfl⟩ := execMap_cases h
  · rintro rfl
    exact mapCheck_ne_mapEmpty hinv n x hc
  · rintro rfl
    simpa using boundCheck_eq_some hb
  · have hnone : s.errCode = .noError := by simpa [herr] using hinv.error_recorded
    simp [hnone]

end Sys2Proof.Machine
end

section
/-! PROOF. The interrupt level (60 R520): each of its two terms drops with its cause and with its enable. -/

set_option autoImplicit false

namespace Sys2Proof.Machine

/-! ### The level and its two terms -/

theorem irq_iff (s : State) :
    irq s = true ↔ (s.done = true ∧ s.doneIe = true) ∨ (s.err = true ∧ s.errIe = true) := by
  simp [irq]

theorem statusWord_irq (s : State) : (statusWord s).getLsbD 6 = irq s := by
  obtain ⟨-, -, -, -, -, -, hirq, -, -⟩ := statusWord_bits s
  exact hirq

/-- Without DONE the level is the ERR term alone. -/
theorem irq_of_not_done {s : State} (h : s.done = false) : irq s = (s.err && s.errIe) := by
  simp [irq, h]

/-- Without ERR the level is the DONE term alone. -/
theorem irq_of_not_err {s : State} (h : s.err = false) : irq s = (s.done && s.doneIe) := by
  simp [irq, h]

theorem irq_of_disabled {s : State} (hd : s.doneIe = false) (he : s.errIe = false) : irq s = false := by
  simp [irq, hd, he]

/-! ### What each way of dropping the level leaves -/

theorem irq_writeStatus_done {w : Word} (h : w.getLsbD 1 = true) (s : State) :
    irq (writeStatus s w) = (s.err && s.errIe) :=
  irq_of_not_done (by simp [h])

theorem irq_accept (s : State) (w : Word) : irq (accept s w) = (s.err && s.errIe) :=
  irq_of_not_done (accept_done s w)

theorem issue_of_let_through {s : State} {w : Word} (hb : s.busy = false)
    (h : s.err = false ∨ acceptedUnderErr w = true) : issue s w = accept s w := by
  obtain he | hw := h
  · exact issue_of_no_error hb he w
  · exact issue_acceptedUnderErr hb hw

/-- CLEAR_ERR drops the ERR term; its completion sets DONE, so the level is DONE's enable. -/
theorem irq_complete_clearErrors (s : State) : irq (complete (clearErrors s)) = s.doneIe :=
  irq_of_not_err (s := complete (clearErrors s)) rfl

theorem irq_writeIrqEn_zero {w : Word} (hd : w.getLsbD 0 = false) (he : w.getLsbD 1 = false) (s : State) :
    irq (writeIrqEn s w) = false :=
  irq_of_disabled hd he

/-- Settles O50: each clause is the level with a cause or both enables 0. -/
theorem interruptFollowsItsCauses : Obligations.InterruptFollowsItsCauses := by
  intro s
  refine ⟨irq_iff s, statusWord_irq s, fun w h => irq_writeStatus_done h s,
    fun w hb hacc => ?accepted, ?clearErr, fun w hd he => irq_writeIrqEn_zero hd he s⟩
  case accepted =>
    rw [issue_of_let_through hb hacc]
    exact irq_accept s w
  case clearErr =>
    rintro t ⟨⟩
    exact irq_complete_clearErrors s

end Sys2Proof.Machine
end

section
/-! PROOF. The reset input (70 R600): a hard reset is a power-on but for the model's own fields, and the
register window reads none of those. -/

set_option autoImplicit false

namespace Sys2Proof.Machine

/-! ### The window reads registers only -/

/-- The fields that are no register: the buffers' bytes and the model's own (logs 1, 7, 8, 10). -/
def withOwnFields (s : State) (mem : Memory) (resets draws : Nat) (inbox : List HostEvent)
    (response : Option Response) : State :=
  { s with mem := mem, resets := resets, draws := draws, inbox := inbox, response := response }

section
variable (s : State) (mem : Memory) (resets draws : Nat) (inbox : List HostEvent)
  (response : Option Response)

theorem readReg_withOwnFields (r : Reg) :
    readReg (withOwnFields s mem resets draws inbox response) r = readReg s r := by
  cases r <;> rfl

theorem resultWord_withOwnFields (off : Nat) :
    resultWord (withOwnFields s mem resets draws inbox response) off = resultWord s off := rfl

theorem readWindow_withOwnFields (off : Nat) :
    readWindow (withOwnFields s mem resets draws inbox response) off = readWindow s off := by
  unfold readWindow
  split
  case isTrue => exact resultWord_withOwnFields s mem resets draws inbox response off
  case isFalse =>
    cases regAt off with
    | some r => exact readReg_withOwnFields s mem resets draws inbox response r
    | none => rfl

end

/-! ### The reset input -/

theorem hardReset_eq_powerOn (s : State) :
    hardReset s =
      withOwnFields (State.powerOn s.params) [] (s.resets + 1) s.draws s.inbox none := rfl

theorem readWindow_hardReset (s : State) (off : Nat) :
    readWindow (hardReset s) off = readWindow (State.powerOn s.params) off := by
  rw [hardReset_eq_powerOn, readWindow_withOwnFields]

theorem irq_hardReset (s : State) : irq (hardReset s) = false :=
  irq_of_disabled (hardReset_doneIe s) (hardReset_errIe s)

/-- Settles O54: the step is a hard reset of the state that is left after taking the event, whatever was in
flight; the window after it is the power-on window because it reads registers only. -/
theorem resetAbandonsTheCommand : Obligations.ResetAbandonsTheCommand := by
  intro s q hq
  exact ⟨hardReset (withInbox s q), step_of_reset hq, hardReset_busy _, hardReset_seqState _,
    irq_hardReset _, hardReset_mem _, hardReset_inbox _, hardReset_params _,
    readWindow_hardReset (withInbox s q)⟩

end Sys2Proof.Machine
end
